-- ==== Sys2Proof/Word.lean ====
section
/-! DEFINITION. The widths of `00_scope.md` rule R6: a nibble is 4 bits, a byte 8 bits, a word 32 bits, a block
16 bytes. Every one of them is unsigned, and the datapath's addition wraps. -/

namespace Sys2Proof

/-- Rule R6: 4 bits. -/
abbrev Nibble := BitVec 4

/-- Rule R6: 8 bits, the unit of both streams (rule R40). -/
abbrev Byte := BitVec 8

/-- Rule R6: 32 bits, the width of every word of the datapath (rule R5, WORD_BITS). -/
abbrev Word := BitVec 32

/-- Rule R6: 16 bytes, byte 0 first in stream order (rule R44). -/
abbrev Block := Vector Byte 16

/-- Rule R8, "addition (mod 2^32)": the carry is discarded (rule R36). -/
abbrev add32 (a b : Word) : Word := a + b

end Sys2Proof
end

