-- ==== Sys2Proof/Machine/Bits.lean ====
section
/-! DEFINITION. The operators of `00_scope.md` rules R8, R9 and R10 (rotations, byte selection, little-endian words,
byte strings) and the block-to-word view of `20_memory.md` rules R43 to R48. -/

namespace Sys2Proof

/-- Rule R8: rotate left by `n`, `0 < n < 32`. -/
def rol32 (a : Word) (n : Nat) : Word := (a <<< n) ||| (a >>> (32 - n))

/-- Rule R8: rotate right by `n`, `0 < n < 32`. -/
def ror32 (a : Word) (n : Nat) : Word := (a >>> n) ||| (a <<< (32 - n))

/-- Rule R8: `byte_n(a) = a[8n+7 : 8n]`; byte 0 is the least significant. -/
def byteN (a : Word) (n : Nat) : Byte := a.extractLsb' (8 * n) 8

/-- Rule R8: the word whose little-endian bytes are `b0, b1, b2, b3`, so that `byte_n` of it is `bn`. -/
def le32 (b0 b1 b2 b3 : Byte) : Word :=
  b0.setWidth 32 ||| (b1.setWidth 32 <<< 8) ||| (b2.setWidth 32 <<< 16) ||| (b3.setWidth 32 <<< 24)

/-- Rule R9: rotate a nibble right by one. -/
def ror4 (x : Nibble) : Nibble := (x >>> 1) ||| ((x &&& 1) <<< 3)

/-- Rule R10, `bytes(W)` of one word: its four bytes, least significant first. -/
def wordBytes (w : Word) : List Byte := [byteN w 0, byteN w 1, byteN w 2, byteN w 3]

/-- A table of `n` entries given by its entry function: the shape of the register arrays of rule R20 and of a block. -/
def tabulate {α : Type} {n : Nat} (f : Fin n → α) : Vector α n := ⟨⟨(List.finRange n).map f⟩, by simp⟩

/-- Four words in the order the datapath names them: the `P_0..P_3`, `C_0..C_3` and `R0..R3` of `42_block.md`. -/
structure Quad where
  r0 : Word
  r1 : Word
  r2 : Word
  r3 : Word
deriving DecidableEq, Repr

/-- Rule R44, `words(B)`: word i is the little-endian word of block bytes 4i to 4i+3. -/
def blockWords (b : Block) : Quad where
  r0 := le32 b[0] b[1] b[2] b[3]
  r1 := le32 b[4] b[5] b[6] b[7]
  r2 := le32 b[8] b[9] b[10] b[11]
  r3 := le32 b[12] b[13] b[14] b[15]

/-- Rule R44, `bytes(C)`: the 16 bytes of four words, each word least significant byte first. -/
def quadBytes (q : Quad) : Block :=
  #v[byteN q.r0 0, byteN q.r0 1, byteN q.r0 2, byteN q.r0 3,
     byteN q.r1 0, byteN q.r1 1, byteN q.r1 2, byteN q.r1 3,
     byteN q.r2 0, byteN q.r2 1, byteN q.r2 2, byteN q.r2 3,
     byteN q.r3 0, byteN q.r3 1, byteN q.r3 2, byteN q.r3 3]

/-- Rule R10: `s ^ t` on two 16-byte strings is bytewise; no byte order arises (rule R46). -/
def xorBlock (s t : Block) : Block := Vector.zipWith (· ^^^ ·) s t

end Sys2Proof
end

