-- ==== Sys2Proof/Machine/Tables.lean ====
section
/-! DEFINITION. The small constant tables of Twofish as `40_primitives.md` prints them: the two reduction polynomials
(R81), the eight nibble tables (R84, R85), the MDS matrix (R87), the RS matrix (R89), the layer selection QSEL (R92)
and RHO (`41_key_schedule.md` rule R114). They are universal constants, not state (rules R33, R97). -/

namespace Sys2Proof

/-- Rule R81: `x^8 + x^6 + x^5 + x^3 + 1`, the field of the MDS product and of the m-tables. -/
def polyMds : BitVec 9 := 0x169#9

/-- Rule R81: `x^8 + x^6 + x^3 + x^2 + 1`, the field of the RS product. -/
def polyRs : BitVec 9 := 0x14D#9

/-- Rule R114: the word whose four bytes are all 1. -/
def rho : Word := 0x01010101#32

/-- Rule R82: the names of the two q-tables. -/
inductive QName where
  | q0
  | q1
deriving DecidableEq, Repr

/-- Rule R84: nibble table `t0` of `Q0`, index 0 first. -/
def q0t0 : List Nibble :=
  [0x8, 0x1, 0x7, 0xD, 0x6, 0xF, 0x3, 0x2, 0x0, 0xB, 0x5, 0x9, 0xE, 0xC, 0xA, 0x4]

/-- Rule R84: nibble table `t1` of `Q0`, index 0 first. -/
def q0t1 : List Nibble :=
  [0xE, 0xC, 0xB, 0x8, 0x1, 0x2, 0x3, 0x5, 0xF, 0x4, 0xA, 0x6, 0x7, 0x0, 0x9, 0xD]

/-- Rule R84: nibble table `t2` of `Q0`, index 0 first. -/
def q0t2 : List Nibble :=
  [0xB, 0xA, 0x5, 0xE, 0x6, 0xD, 0x9, 0x0, 0xC, 0x8, 0xF, 0x3, 0x2, 0x4, 0x7, 0x1]

/-- Rule R84: nibble table `t3` of `Q0`, index 0 first. -/
def q0t3 : List Nibble :=
  [0xD, 0x7, 0xF, 0x4, 0x1, 0x2, 0x6, 0xE, 0x9, 0xB, 0x3, 0x0, 0x8, 0x5, 0xC, 0xA]

/-- Rule R85: nibble table `t0` of `Q1`, index 0 first. -/
def q1t0 : List Nibble :=
  [0x2, 0x8, 0xB, 0xD, 0xF, 0x7, 0x6, 0xE, 0x3, 0x1, 0x9, 0x4, 0x0, 0xA, 0xC, 0x5]

/-- Rule R85: nibble table `t1` of `Q1`, index 0 first. -/
def q1t1 : List Nibble :=
  [0x1, 0xE, 0x2, 0xB, 0x4, 0xC, 0x3, 0x7, 0x6, 0xD, 0xA, 0x5, 0xF, 0x9, 0x0, 0x8]

/-- Rule R85: nibble table `t2` of `Q1`, index 0 first. -/
def q1t2 : List Nibble :=
  [0x4, 0xC, 0x7, 0x5, 0x1, 0x6, 0x9, 0xA, 0x0, 0xE, 0xD, 0x8, 0x2, 0xB, 0x3, 0xF]

/-- Rule R85: nibble table `t3` of `Q1`, index 0 first. -/
def q1t3 : List Nibble :=
  [0xB, 0x9, 0x5, 0x1, 0xC, 0x3, 0xD, 0xE, 0x6, 0x4, 0x7, 0xF, 0x2, 0x0, 0x8, 0xA]

/-- The nibble table `t` (0 to 3) of a q-table (rules R84 and R85). -/
def nibbleTable : QName → Fin 4 → List Nibble
  | .q0, 0 => q0t0
  | .q0, 1 => q0t1
  | .q0, 2 => q0t2
  | .q0, 3 => q0t3
  | .q1, 0 => q1t0
  | .q1, 1 => q1t1
  | .q1, 2 => q1t2
  | .q1, 3 => q1t3

/-- Rule R87: the 4 by 4 MDS matrix, one list a row, row i = 0 first, column j = 0 first. -/
def mdsRows : List (List Byte) :=
  [[0x01, 0xEF, 0x5B, 0x5B],
   [0x5B, 0xEF, 0xEF, 0x01],
   [0xEF, 0x5B, 0x01, 0xEF],
   [0xEF, 0x01, 0xEF, 0x5B]]

/-- Entry `MDS[i][j]` of rule R87. -/
def mdsEntry (i j : Fin 4) : Byte := (mdsRows.getD i.val []).getD j.val 0

/-- Rule R89: the 4 by 8 RS matrix, one list a row. -/
def rsRows : List (List Byte) :=
  [[0x01, 0xA4, 0x55, 0x87, 0x5A, 0x58, 0xDB, 0x9E],
   [0xA4, 0x56, 0x82, 0xF3, 0x1E, 0xC6, 0x68, 0xE5],
   [0x02, 0xA1, 0xFC, 0xC1, 0x47, 0xAE, 0x3D, 0x19],
   [0xA4, 0x55, 0x87, 0x5A, 0x58, 0xDB, 0x9E, 0x03]]

/-- Entry `RS[i][j]` of rule R89. -/
def rsEntry (i : Fin 4) (j : Fin 8) : Byte := (rsRows.getD i.val []).getD j.val 0

/-- Rule R92: QSEL, one list a layer from layer 0 up, lane 0 first: which q-table a layer looks up in each lane. -/
def qselRows : List (List QName) :=
  [[.q1, .q0, .q1, .q0],
   [.q0, .q0, .q1, .q1],
   [.q0, .q1, .q0, .q1],
   [.q1, .q1, .q0, .q0],
   [.q1, .q0, .q0, .q1]]

/-- Entry `QSEL[s][j]` of rule R92, layers 0 to 4. Layers above 4 do not exist: the depth `k` is 2, 3 or 4 (rule R22), so
the default of this lookup is never used by a command. -/
def qsel (s : Nat) (j : Fin 4) : QName := (qselRows.getD s []).getD j.val .q0

end Sys2Proof
end

