-- ==== Sys2Proof/Machine/Primitives.lean ====
section
/-! DEFINITION. The pure functions of `40_primitives.md`: multiplication in GF(2^8) (R80), the q-tables (R83), the MDS and
RS products (R88, R90), the shift-register form of the latter (R91), the functions h and g (R92, R93), the m-tables (R94)
and the shift forms of the two multipliers (R95). No command is defined here. -/

namespace Sys2Proof

/-- Rule R80, the loop's second half: shift the byte `a` left by one and, if bit 8 came out, reduce by the polynomial. -/
def gfDouble (p : BitVec 9) (a : Byte) : Byte :=
  let d := a.setWidth 9 <<< 1
  (if d.getLsbD 8 then d ^^^ p else d).setWidth 8

/-- Rule R80, the loop: `gfLoop p b n i a r` runs the `n` iterations for bits `i`, `i+1`, … of `b` on `a` and `r`. -/
def gfLoop (p : BitVec 9) (b : Byte) : Nat → Nat → Byte → Byte → Byte
  | 0, _, _, r => r
  | n + 1, i, a, r => gfLoop p b n (i + 1) (gfDouble p a) (if b.getLsbD i then r ^^^ a else r)

/-- Rule R80: `gfmul(a, b, P)`, the product of two bytes as polynomials over GF(2), reduced modulo the degree-8 `P`. -/
def gfmul (a b : Byte) (p : BitVec 9) : Byte := gfLoop p b 8 0 a 0

/-- One lookup `t[x]` in a 16-entry nibble table. -/
def nibbleAt (t : List Nibble) (x : Nibble) : Nibble := t.getD x.toNat 0

/-- Rule R83: the mixing `a ^ ROR4(b) ^ ((8 * a) mod 16)` that makes b1 and b3. -/
def nibbleMix (a b : Nibble) : Nibble := a ^^^ ror4 b ^^^ (a <<< 3)

/-- Rule R83: `Qn[x]`, built from the four nibble tables of that n. -/
def qAt (n : QName) (x : Byte) : Byte :=
  let a0 : Nibble := x.extractLsb' 4 4
  let b0 : Nibble := x.extractLsb' 0 4
  let a1 := a0 ^^^ b0
  let b1 := nibbleMix a0 b0
  let a2 := nibbleAt (nibbleTable n 0) a1
  let b2 := nibbleAt (nibbleTable n 1) b1
  let a3 := a2 ^^^ b2
  let b3 := nibbleMix a2 b2
  let a4 := nibbleAt (nibbleTable n 2) a3
  let b4 := nibbleAt (nibbleTable n 3) b3
  b4 ++ a4

/-- Rule R88: row i of the MDS product, the byte `z_i`. -/
def mdsByte (i : Fin 4) (y0 y1 y2 y3 : Byte) : Byte :=
  gfmul (mdsEntry i 0) y0 polyMds ^^^ gfmul (mdsEntry i 1) y1 polyMds ^^^
    gfmul (mdsEntry i 2) y2 polyMds ^^^ gfmul (mdsEntry i 3) y3 polyMds

/-- Rule R88: `mds_mul(y0, y1, y2, y3)`. -/
def mdsMul (y0 y1 y2 y3 : Byte) : Word :=
  le32 (mdsByte 0 y0 y1 y2 y3) (mdsByte 1 y0 y1 y2 y3) (mdsByte 2 y0 y1 y2 y3) (mdsByte 3 y0 y1 y2 y3)

/-- Rule R90: row i of the RS product over the eight key bytes of the word pair `(w0, w1)`, in stream order. -/
def rsByte (i : Fin 4) (w0 w1 : Word) : Byte :=
  gfmul (rsEntry i 0) (byteN w0 0) polyRs ^^^ gfmul (rsEntry i 1) (byteN w0 1) polyRs ^^^
  gfmul (rsEntry i 2) (byteN w0 2) polyRs ^^^ gfmul (rsEntry i 3) (byteN w0 3) polyRs ^^^
  gfmul (rsEntry i 4) (byteN w1 0) polyRs ^^^ gfmul (rsEntry i 5) (byteN w1 1) polyRs ^^^
  gfmul (rsEntry i 6) (byteN w1 2) polyRs ^^^ gfmul (rsEntry i 7) (byteN w1 3) polyRs

/-- Rule R90: `rs_mul(w0, w1)`, the reduction of eight key bytes to one S-box key. -/
def rsMul (w0 w1 : Word) : Word := le32 (rsByte 0 w0 w1) (rsByte 1 w0 w1) (rsByte 2 w0 w1) (rsByte 3 w0 w1)

/-- Rule R91: one turn of the feedback register; the pair is `(p1, p0)`, high word first. -/
def rsRemStep (p : Word × Word) : Word × Word :=
  let t := p.1 >>> 24
  let p1 := (p.1 <<< 8) ||| (p.2 >>> 24)
  let p0 := p.2 <<< 8
  let u := if t.getLsbD 7 then (t <<< 1) ^^^ 0x14D else t <<< 1
  let p1 := p1 ^^^ (t ^^^ (u <<< 16))
  let u := u ^^^ (t >>> 1)
  let u := if t.getLsbD 0 then u ^^^ 0xA6 else u
  (p1 ^^^ ((u <<< 24) ^^^ (u <<< 8)), p0)

/-- Rule R91: `rs_rem(w0, w1)`, eight turns of the register. Rule R90 governs; that the two are equal is a statement. -/
def rsRem (w0 w1 : Word) : Word := (Nat.repeat rsRemStep 8 (w1, w0)).1

/-- Rule R92, the loop `for s = k downto 1` of lane j: layers `s`, `s-1`, …, 1, each a q lookup and then the exclusive or
with byte j of list word `s-1`. -/
def keyedLayers (j : Fin 4) (l : List Word) : Nat → Byte → Byte
  | 0, y => y
  | s + 1, y => keyedLayers j l s (qAt (qsel (s + 1) j) y ^^^ byteN (l.getD s 0) j.val)

/-- Rule R96: `u_j`, the byte of lane j just before the layer-0 lookup; the depth is the length of the list (rule R92). -/
def hLane (j : Fin 4) (l : List Word) (y : Byte) : Byte := keyedLayers j l l.length y

/-- Rule R92: `y_j`, the byte of lane j after the layer-0 lookup. -/
def hByte (j : Fin 4) (x : Word) (l : List Word) : Byte := qAt (qsel 0 j) (hLane j l (byteN x j.val))

/-- Rule R92: `h(X, L)`. -/
def h (x : Word) (l : List Word) : Word := mdsMul (hByte 0 x l) (hByte 1 x l) (hByte 2 x l) (hByte 3 x l)

/-- Rule R93: `g(X)` for the S-box keys `S_0, …, S_{k-1}` in index order: h over the list in REVERSE index order. -/
def gOf (sKeys : List Word) (x : Word) : Word := h x sKeys.reverse

/-- Rule R94: `M_j[b]`, column j of the MDS matrix times the layer-0 lookup of lane j. -/
def mAt (j : Fin 4) (b : Byte) : Word :=
  let v := qAt (qsel 0 j) b
  le32 (gfmul (mdsEntry 0 j) v polyMds) (gfmul (mdsEntry 1 j) v polyMds)
    (gfmul (mdsEntry 2 j) v polyMds) (gfmul (mdsEntry 3 j) v polyMds)

/-- Rule R95: the constants that the two low bits of v select for the multiplier 5B. -/
def t5B : List Byte := [0x00, 0x5A, 0xB4, 0xEE]

/-- Rule R95: the constants that the two low bits of v select for the multiplier EF. -/
def tEF : List Byte := [0x00, 0xEE, 0xB4, 0x5A]

/-- Rule R95: the shift form of `gfmul(0x5B, v, 0x169)`. Rule R94's `gfmul` form governs. -/
def m5B (v : Byte) : Byte := v ^^^ (v >>> 2) ^^^ t5B.getD (v &&& 3).toNat 0

/-- Rule R95: the shift form of `gfmul(0xEF, v, 0x169)`. -/
def mEF (v : Byte) : Byte := v ^^^ (v >>> 1) ^^^ (v >>> 2) ^^^ tEF.getD (v &&& 3).toNat 0

/-- Rule R96: the table form of h. -/
def hTables (x : Word) (l : List Word) : Word :=
  mAt 0 (hLane 0 l (byteN x 0)) ^^^ mAt 1 (hLane 1 l (byteN x 1)) ^^^
    mAt 2 (hLane 2 l (byteN x 2)) ^^^ mAt 3 (hLane 3 l (byteN x 3))

end Sys2Proof
end

