-- ==== Sys2Proof/Machine/KeySchedule.lean ====
section
/-! DEFINITION. The steps of the key schedule, `41_key_schedule.md` rules R111 to R115, as pure functions of the key
bytes (rule R119). SCHED (`Machine/Schedule.lean`) stores their values. -/

namespace Sys2Proof

/-- Rule R111 (rule R45): key word `M_i`, the little-endian word of key bytes 4i to 4i+3. -/
def keyWord (key : List Byte) (i : Nat) : Word :=
  le32 (key.getD (4 * i) 0) (key.getD (4 * i + 1) 0) (key.getD (4 * i + 2) 0) (key.getD (4 * i + 3) 0)

/-- Rule R110: k, the key length in 64-bit units, `LEN / 8` (`90_conflicts.md` C5). -/
def keyDepth (key : List Byte) : Nat := key.length / 8

/-- Rule R112: `Me = (M_0, M_2, …, M_{2k-2})`, ascending. -/
def evenWords (key : List Byte) : List Word := (List.range (keyDepth key)).map fun i => keyWord key (2 * i)

/-- Rule R112: `Mo = (M_1, M_3, …, M_{2k-1})`, ascending. -/
def oddWords (key : List Byte) : List Word := (List.range (keyDepth key)).map fun i => keyWord key (2 * i + 1)

/-- Rule R113: S-box key `S_i`. -/
def sboxKey (key : List Byte) (i : Nat) : Word := rsMul (keyWord key (2 * i)) (keyWord key (2 * i + 1))

/-- Rule R113: the S-box keys `S_0, …, S_{k-1}` in index order. -/
def sboxKeys (key : List Byte) : List Word := (List.range (keyDepth key)).map (sboxKey key)

/-- Rule R114: `A_i = h((2*i) * RHO, Me)`. -/
def subkeyA (key : List Byte) (i : Nat) : Word := h (BitVec.ofNat 32 (2 * i) * rho) (evenWords key)

/-- Rule R114: `B_i = ROL32(h((2*i+1) * RHO, Mo), 8)`. -/
def subkeyB (key : List Byte) (i : Nat) : Word := rol32 (h (BitVec.ofNat 32 (2 * i + 1) * rho) (oddWords key)) 8

/-- Rule R114: `L_KEY[2i] = A_i + B_i`. -/
def evenSubkey (key : List Byte) (i : Nat) : Word := add32 (subkeyA key i) (subkeyB key i)

/-- Rule R114: `L_KEY[2i+1] = ROL32(A_i + (B_i + B_i), 9)`. -/
def oddSubkey (key : List Byte) (i : Nat) : Word :=
  rol32 (add32 (subkeyA key i) (add32 (subkeyB key i) (subkeyB key i))) 9

/-- Rule R114: the 40 whitening and round keys `L_KEY[0..39]`. -/
def subkeys (key : List Byte) : Vector Word 40 :=
  tabulate fun n => if n.val % 2 = 0 then evenSubkey key (n.val / 2) else oddSubkey key (n.val / 2)

/-- Rule R115: entry `MK[j][b]` for the S-box keys `S_0, …, S_{k-1}`: the keyed layers over the REVERSED S-box keys
(`L_{s-1} = S_{k-s}`), then the m-table of the lane. -/
def mkEntry (sKeys : List Word) (j : Fin 4) (b : Byte) : Word := mAt j (hLane j sKeys.reverse b)

/-- Rule R115: the four key-dependent tables. They are a pure function of the S-box keys (rule R25). -/
def mkTables (sKeys : List Word) : Vector (Vector Word 256) 4 :=
  tabulate fun j => tabulate fun b => mkEntry sKeys j (BitVec.ofFin b)

end Sys2Proof
end

