-- ==== Sys2Proof/Machine/Cipher.lean ====
section
/-! DEFINITION. The block transform of `42_block.md`: the table form of g (R135), the function F (R132), one round each
way (R133, R138), `ENC` (R131) and `DEC` (R137), and the cycle forms (R134, R138), as pure functions of the key words
`L_KEY` and the tables `MK` (rule R140). -/

namespace Sys2Proof

/-- Rule R135, g by table: `MK[0][byte_0(X)] ^ MK[1][byte_1(X)] ^ MK[2][byte_2(X)] ^ MK[3][byte_3(X)]`. -/
def gTab (mk : Vector (Vector Word 256) 4) (x : Word) : Word :=
  mk[0][(byteN x 0).toFin] ^^^ mk[1][(byteN x 1).toFin] ^^^ mk[2][(byteN x 2).toFin] ^^^ mk[3][(byteN x 3).toFin]

/-- Rule R132: the function F of round r on `(R0, R1)`. -/
def roundF (lk : Vector Word 40) (mk : Vector (Vector Word 256) 4) (r : Fin 16) (x0 x1 : Word) : Word × Word :=
  let t0 := gTab mk x0
  let t1 := gTab mk (rol32 x1 8)
  (add32 (add32 t0 t1) lk[2 * r.val + 8], add32 (add32 t0 (add32 t1 t1)) lk[2 * r.val + 9])

/-- Rule R131, the loop body (rule R133): change the half `(R2, R3)`, then swap the halves. -/
def encRound (lk : Vector Word 40) (mk : Vector (Vector Word 256) 4) (r : Fin 16) (q : Quad) : Quad :=
  let f := roundF lk mk r q.r0 q.r1
  { r0 := ror32 (q.r2 ^^^ f.1) 1, r1 := rol32 q.r3 1 ^^^ f.2, r2 := q.r0, r3 := q.r1 }

/-- Rule R137, the loop body (rule R138): undo one round on the half `(R0, R1)`, then swap back. -/
def decRound (lk : Vector Word 40) (mk : Vector (Vector Word 256) 4) (r : Fin 16) (q : Quad) : Quad :=
  let f := roundF lk mk r q.r2 q.r3
  { r0 := q.r2, r1 := q.r3, r2 := rol32 q.r0 1 ^^^ f.1, r3 := ror32 (q.r1 ^^^ f.2) 1 }

/-- Rule R131: rounds r = 0 to 15 in ascending order. -/
def encRounds (lk : Vector Word 40) (mk : Vector (Vector Word 256) 4) (q : Quad) : Quad :=
  (List.finRange 16).foldl (fun q r => encRound lk mk r q) q

/-- Rule R137: rounds r = 15 down to 0. -/
def decRounds (lk : Vector Word 40) (mk : Vector (Vector Word 256) 4) (q : Quad) : Quad :=
  (List.finRange 16).reverse.foldl (fun q r => decRound lk mk r q) q

/-- Rule R131: `ENC(B)`. Input whitening with `L_KEY[0..3]`, 16 rounds, the last swap undone, output whitening with
`L_KEY[4..7]` (`90_conflicts.md` C1, C3). -/
def encBlock (lk : Vector Word 40) (mk : Vector (Vector Word 256) 4) (b : Block) : Block :=
  let p := blockWords b
  let q := encRounds lk mk ⟨p.r0 ^^^ lk[0], p.r1 ^^^ lk[1], p.r2 ^^^ lk[2], p.r3 ^^^ lk[3]⟩
  quadBytes ⟨q.r2 ^^^ lk[4], q.r3 ^^^ lk[5], q.r0 ^^^ lk[6], q.r1 ^^^ lk[7]⟩

/-- Rule R137: `DEC(B)`. The output whitening comes off first and the input whitening last (`90_conflicts.md` C7). -/
def decBlock (lk : Vector Word 40) (mk : Vector (Vector Word 256) 4) (b : Block) : Block :=
  let c := blockWords b
  let q := decRounds lk mk ⟨c.r2 ^^^ lk[6], c.r3 ^^^ lk[7], c.r0 ^^^ lk[4], c.r1 ^^^ lk[5]⟩
  quadBytes ⟨q.r0 ^^^ lk[0], q.r1 ^^^ lk[1], q.r2 ^^^ lk[2], q.r3 ^^^ lk[3]⟩

/-- Rule R134, the loop body of the cycle form: cycle c is rounds 2c and 2c+1 with the words held in place, and uses the
four key words `L_KEY[4c+8 .. 4c+11]`. -/
def encCycle (lk : Vector Word 40) (mk : Vector (Vector Word 256) 4) (c : Fin 8) (b : Quad) : Quad :=
  let t0 := gTab mk b.r0
  let t1 := gTab mk (rol32 b.r1 8)
  let b2 := ror32 (b.r2 ^^^ add32 (add32 t0 t1) lk[4 * c.val + 8]) 1
  let b3 := rol32 b.r3 1 ^^^ add32 (add32 t0 (add32 t1 t1)) lk[4 * c.val + 9]
  let u0 := gTab mk b2
  let u1 := gTab mk (rol32 b3 8)
  { r0 := ror32 (b.r0 ^^^ add32 (add32 u0 u1) lk[4 * c.val + 10]) 1,
    r1 := rol32 b.r1 1 ^^^ add32 (add32 u0 (add32 u1 u1)) lk[4 * c.val + 11], r2 := b2, r3 := b3 }

/-- Rule R134: `ENC(B)` in cycle form, cycles c = 0 to 7. Rule R131 is the definition. -/
def encBlockCycles (lk : Vector Word 40) (mk : Vector (Vector Word 256) 4) (b : Block) : Block :=
  let p := blockWords b
  let q := (List.finRange 8).foldl (fun q c => encCycle lk mk c q)
    ⟨p.r0 ^^^ lk[0], p.r1 ^^^ lk[1], p.r2 ^^^ lk[2], p.r3 ^^^ lk[3]⟩
  quadBytes ⟨q.r2 ^^^ lk[4], q.r3 ^^^ lk[5], q.r0 ^^^ lk[6], q.r1 ^^^ lk[7]⟩

/-- Rule R138, the loop body of decryption's cycle form. -/
def decCycle (lk : Vector Word 40) (mk : Vector (Vector Word 256) 4) (c : Fin 8) (b : Quad) : Quad :=
  let t0 := gTab mk b.r0
  let t1 := gTab mk (rol32 b.r1 8)
  let b2 := rol32 b.r2 1 ^^^ add32 (add32 t0 t1) lk[4 * c.val + 10]
  let b3 := ror32 (b.r3 ^^^ add32 (add32 t0 (add32 t1 t1)) lk[4 * c.val + 11]) 1
  let u0 := gTab mk b2
  let u1 := gTab mk (rol32 b3 8)
  { r0 := rol32 b.r0 1 ^^^ add32 (add32 u0 u1) lk[4 * c.val + 8],
    r1 := ror32 (b.r1 ^^^ add32 (add32 u0 (add32 u1 u1)) lk[4 * c.val + 9]) 1, r2 := b2, r3 := b3 }

/-- Rule R138: `DEC(B)` in cycle form, cycles c = 7 down to 0; the plaintext comes out of b2, b3, b0, b1. -/
def decBlockCycles (lk : Vector Word 40) (mk : Vector (Vector Word 256) 4) (b : Block) : Block :=
  let p := blockWords b
  let q := (List.finRange 8).reverse.foldl (fun q c => decCycle lk mk c q)
    ⟨p.r0 ^^^ lk[4], p.r1 ^^^ lk[5], p.r2 ^^^ lk[6], p.r3 ^^^ lk[7]⟩
  quadBytes ⟨q.r2 ^^^ lk[0], q.r3 ^^^ lk[1], q.r0 ^^^ lk[2], q.r1 ^^^ lk[3]⟩

end Sys2Proof
end

