-- ==== Sys2Proof/Machine/Frames.lean ====
section
/-! DEFINITION. Frames on the two byte streams: `30_encoding.md` rules R60, R61, R63 and R64. A command frame and a
response frame have one layout, a header word (low byte OPC or ST, the length above it) least significant byte first and
then the payload. Frames are BUILT from the header word (R61) and TAKEN APART byte by byte (R63). -/

namespace Sys2Proof

/-- Rules R61 and R64: `HDR = OPC | (LEN << 8)`, `RHDR = ST | (RLEN << 8)`. -/
def frameHeader (low : Byte) (len : Nat) : Word := low.setWidth 32 ||| (BitVec.ofNat 32 len <<< 8)

/-- Rules R60 and R64: header word least significant byte first (R47), then the payload. -/
def frame (low : Byte) (payload : List Byte) : List Byte :=
  wordBytes (frameHeader low payload.length) ++ payload

/-- Rule R63: `LEN = byte 1 + 256 * byte 2 + 65536 * byte 3`. -/
def frameLen (b1 b2 b3 : Byte) : Nat := b1.toNat + 256 * b2.toNat + 65536 * b3.toNat

/-- Rule R63: take one whole frame from the front of a stream: its first byte, its payload, and the rest of the stream.
`none` while the stream holds less than a whole frame (rule R42). -/
def splitFrame : List Byte → Option (Byte × List Byte × List Byte)
  | b0 :: b1 :: b2 :: b3 :: tl =>
    if tl.length < frameLen b1 b2 b3 then none
    else some (b0, tl.take (frameLen b1 b2 b3), tl.drop (frameLen b1 b2 b3))
  | _ => none

end Sys2Proof
end

