-- ==== Sys2Proof/Config.lean ====
section
/-! DEFINITION. The parameters of `00_scope.md` rule R5 that a check or an encoding reads. The two OPEN parameters,
TRANSPORT (the pin protocol) and LATENCY (the time of a command), have no name here: rule R5 says that no rule depends on
their values, and rule R240 that a model has no clock (log entries 2 and 8). No value of this hardware is free: "every
frame the core can receive has exactly one response and one next state" (`93_implementation_defined.md`, Part 1). -/

namespace Sys2Proof.Config

/-- BLOCK_BYTES. -/
abbrev blockBytes : Nat := 16

/-- KEY_BYTES, the legal key lengths in bytes. -/
abbrev keyBytes : List Nat := [16, 24, 32]

/-- MAX_LEN: LEN_BITS is 24. -/
abbrev maxLen : Nat := 16777215

end Sys2Proof.Config
end

