-- ==== Sys2Proof/Syntax.lean ====
section
/-! DEFINITION. The nine commands (`30_encoding.md` rule R62), one constructor per row of `opcode_table.json`. A
command's one operand is its payload `In` (`00_scope.md` rule R12); LEN is never written, it is the payload's number of
bytes (rule R68). A payload length that the opcode does not allow is an error of the command, not of the encoding (rule
R67), so a constructor takes a payload of any length. -/

namespace Sys2Proof

/-- The commands of TFCORE. A frame with a reserved opcode is no command: the decoder rejects it by name (rule R66). -/
inductive Instr where
  /-- SCHED, opcode 0x01: schedule the key `key` (rule R110). -/
  | sched (key : List Byte)
  /-- ENCB, opcode 0x02: encrypt one block (rule R130). -/
  | encb (inp : List Byte)
  /-- DECB, opcode 0x03: decrypt one block (rule R136). -/
  | decb (inp : List Byte)
  /-- ECBE, opcode 0x04: encrypt a buffer in ECB mode (rule R150). -/
  | ecbe (inp : List Byte)
  /-- ECBD, opcode 0x05: decrypt a buffer in ECB mode (rule R151). -/
  | ecbd (inp : List Byte)
  /-- CBCI, opcode 0x06: load the initialization vector `iv` (rule R160). -/
  | cbci (iv : List Byte)
  /-- CBCE, opcode 0x07: encrypt a buffer in CBC mode (rule R161). -/
  | cbce (inp : List Byte)
  /-- CBCD, opcode 0x08: decrypt a buffer in CBC mode (rule R162). -/
  | cbcd (inp : List Byte)
  /-- STAT, opcode 0x09: read the status word (rule R180); `inp` must be empty for it to do so. -/
  | stat (inp : List Byte)
deriving DecidableEq, Repr

/-- The payload `In` of a command (rule R12). -/
def Instr.payload : Instr → List Byte
  | .sched key => key
  | .encb inp => inp
  | .decb inp => inp
  | .ecbe inp => inp
  | .ecbd inp => inp
  | .cbci iv => iv
  | .cbce inp => inp
  | .cbcd inp => inp
  | .stat inp => inp

end Sys2Proof
end

