-- ==== Sys2Proof/WellFormed.lean ====
section
/-! DEFINITION. Which commands a frame can carry: LEN has 24 bits (`30_encoding.md` rule R61), and nothing else limits a
frame (rule R67: "Every value of LEN is well formed as an encoding"). -/

namespace Sys2Proof

/-- A command is well formed when its payload's length fits the LEN field. -/
def Instr.wf (i : Instr) : Bool := decide (i.payload.length ≤ Config.maxLen)

end Sys2Proof
end

