-- ==== Sys2Proof/Decode.lean ====
section
/-! DEFINITION. The decoder of the command stream (`30_encoding.md` rules R60 to R67), total on any bytes, and the
encoder. A reserved opcode is rejected by name, with its payload already taken from the stream (rules R63, R66); a stream
that holds less than a whole frame is no command yet (rule R42). -/

namespace Sys2Proof

/-- What the front of the command stream is. -/
inductive Decoded where
  /-- A whole frame of one of the nine commands, and the stream after it. -/
  | command (i : Instr) (rest : List Byte)
  /-- Rule R66: a whole frame whose opcode is reserved, and the stream after it (its payload is skipped). -/
  | reserved (opc : Byte) (rest : List Byte)
  /-- Rule R42: less than a whole frame; nothing has been issued. -/
  | incomplete
deriving DecidableEq, Repr

/-- Rule R62: the command of an assigned opcode; `none` for 0x00 and 0x0A to 0xFF (rule R66). -/
def commandOf (opc : Byte) (inp : List Byte) : Option Instr :=
  match opc.toNat with
  | 1 => some (.sched inp)
  | 2 => some (.encb inp)
  | 3 => some (.decb inp)
  | 4 => some (.ecbe inp)
  | 5 => some (.ecbd inp)
  | 6 => some (.cbci inp)
  | 7 => some (.cbce inp)
  | 8 => some (.cbcd inp)
  | 9 => some (.stat inp)
  | _ => none

/-- Rule R63: decode the front of the command stream. -/
def decode (stream : List Byte) : Decoded :=
  match splitFrame stream with
  | none => .incomplete
  | some (opc, inp, rest) =>
    match commandOf opc inp with
    | some i => .command i rest
    | none => .reserved opc rest

/-- Rule R62: the opcode of a command. -/
def opcodeOf : Instr → Byte
  | .sched _ => 0x01
  | .encb _ => 0x02
  | .decb _ => 0x03
  | .ecbe _ => 0x04
  | .ecbd _ => 0x05
  | .cbci _ => 0x06
  | .cbce _ => 0x07
  | .cbcd _ => 0x08
  | .stat _ => 0x09

/-- Rule R60: the command frame of a well-formed command. -/
def encode (i : Instr) : List Byte := frame (opcodeOf i) i.payload

/-- The frame whose bits, numbered from bit 0 of stream byte 0 upwards, are the low `nbits` bits of `w`, every bit above
being 0: four header bytes and the LEN payload bytes that the header itself asks for. -/
def tableFrame (nbits w : Nat) : List Byte :=
  let v := w % 2 ^ nbits
  (List.range (4 + v / 256 % 2 ^ 24)).map fun i => BitVec.ofNat 8 (v / 256 ^ i)

/-- The command that the decoder reads from the frame with those bits; `none` where it refuses. -/
def decodeTableWord (nbits w : Nat) : Option Instr :=
  match decode (tableFrame nbits w) with
  | .command i _ => some i
  | .reserved _ _ => none
  | .incomplete => none

end Sys2Proof
end

