-- ==== Sys2Proof/Machine/State.lean ====
section
/-! DEFINITION. The state of one TFCORE instance: the nine items of `10_state.md` rule R20, and what stands at its ports
(`20_memory.md` rules R40, R41): the two byte streams and the reset request. The reasons a step can stop. The state after
reset (rule R37). -/

namespace Sys2Proof.Machine

/-- The whole state. Nothing else is state: the raw key (R34), the transient words (R32) and the constant tables (R33)
are none, and there is no register file, program counter or condition code (R30, R31, R36). -/
structure State where
  /-- `KEY_VALID` (R21): a scheduled cipher is present. -/
  keyValid : Bool
  /-- `K` (R22): the key length in 64-bit units, 0, 2, 3 or 4. -/
  k : BitVec 3
  /-- `S_KEY[0..3]` (R24): the S-box keys, index i from key-word pair i. -/
  sKey : Vector Word 4
  /-- `L_KEY[0..39]` (R23): input whitening 0..3, output whitening 4..7, round r in 8+2r and 9+2r. -/
  lKey : Vector Word 40
  /-- `MK[0..3][0..255]` (R25): the key-dependent tables, lane first. -/
  mkTab : Vector (Vector Word 256) 4
  /-- `IV_VALID` (R27): a CBC chaining value is present. -/
  ivValid : Bool
  /-- `CV[0..15]` (R26): the CBC chaining value, byte 0 first in stream order. -/
  cv : Block
  /-- `ERR` (R28): sticky, some command has ended in an error since reset. -/
  err : Bool
  /-- `LAST_ERR` (R28): the status code of the latest failing command, 0 if none since reset. -/
  lastErr : BitVec 3
  /-- The `rst` port (R41): the host has asserted it and the reset is not complete yet (R230). -/
  rst : Bool
  /-- The command stream (R40): the bytes that the host has put on it and the core has not taken, oldest first. -/
  cmd : List Byte
  /-- The response stream (R40): the bytes that the core has put on it and the host has not taken, oldest first. -/
  rsp : List Byte
deriving DecidableEq, Repr

/-- Why the machine has no step. Neither reason belongs to a command: no command of TFCORE stops (R200). -/
inductive Fault where
  /-- Raised by `step` when the command stream is empty: the core is idle, waiting for a header byte (R212, R242). Safe:
  nothing is claimed of a step that is not taken, and the hardware changes nothing while it waits. -/
  | idle
  /-- Raised by `step` when the command stream holds a part of a frame only: the command has not been issued and the core
  waits for the rest (R42, R239, U8 "stuck"). Safe, for the same reason. -/
  | partialFrame
deriving DecidableEq, Repr

/-- Why the model has no meaning for an instruction. -/
inductive Refusal where
  /-- Would be raised by `exec` for a command that the model does not cover; every command is covered, so nothing raises
  it. Safe. -/
  | notModelled (mnemonic : String)
deriving DecidableEq, Repr

/-- The five errors of `30_encoding.md` rule R65, causes in `60_exceptions.md` rules R201 to R205. -/
inductive ErrorCode where
  /-- E_BADOP (R201). -/
  | badOp
  /-- E_KEYLEN (R202). -/
  | keyLen
  /-- E_LEN (R203). -/
  | len
  /-- E_NOKEY (R204). -/
  | noKey
  /-- E_NOIV (R205). -/
  | noIv
deriving DecidableEq, Repr

/-- The outcome of a step or a meaning. -/
abbrev Result := Host.Outcome State Fault Refusal

/-- The state after reset (R37, R230): the validity bits, `K` and the error record are 0, both streams are empty and the
reset request is gone. `S_KEY`, `L_KEY`, `MK` and `CV` are unspecified and unreadable there (R37); the model holds 0 in
them (DESIGN CHOICE, log entry 1, unsafe), and a statement says that no response depends on them. -/
def State.reset : State where
  keyValid := false
  k := 0
  sKey := Vector.replicate 4 0
  lKey := Vector.replicate 40 0
  mkTab := Vector.replicate 4 (Vector.replicate 256 0)
  ivValid := false
  cv := Vector.replicate 16 0
  err := false
  lastErr := 0
  rst := false
  cmd := []
  rsp := []

end Sys2Proof.Machine
end

