-- ==== Sys2Proof/Machine/Flags.lean ====
section
/-! DEFINITION. The flag-like state seen as numbers: the status codes (`30_encoding.md` rule R65) and the status word
(`10_state.md` rule R29). TFCORE has no condition codes (rule R36). -/

namespace Sys2Proof.Machine

/-- Rule R65: the status code of an error, 1 to 5. -/
def ErrorCode.code : ErrorCode → BitVec 3
  | .badOp => 1
  | .keyLen => 2
  | .len => 3
  | .noKey => 4
  | .noIv => 5

/-- A one-bit field as a word. -/
def flagWord (b : Bool) : Word := if b then 1 else 0

/-- Rule R29: `STATUS = KEY_VALID | (IV_VALID << 1) | (K << 2) | (ERR << 7) | (LAST_ERR << 8)`; a view, not state. -/
def statusWord (s : State) : Word :=
  flagWord s.keyValid ||| (flagWord s.ivValid <<< 1) ||| (s.k.setWidth 32 <<< 2) |||
    (flagWord s.err <<< 7) ||| (s.lastErr.setWidth 32 <<< 8)

end Sys2Proof.Machine
end

