-- ==== Sys2Proof/Machine/Operands.lean ====
section
/-! DEFINITION. The operand forms: a payload as one block, as a buffer of blocks, as a key, or empty, with the length
condition of each (`20_memory.md` rules R49 and R50). The condition is on the length only; no address exists. -/

namespace Sys2Proof.Machine

/-- Rule R49: the payload of SCHED is 16, 24 or 32 bytes. -/
def isKey (inp : List Byte) : Bool := Config.keyBytes.contains inp.length

/-- Rule R49: the payload of ENCB, DECB and CBCI is exactly 16 bytes. -/
def isBlock (inp : List Byte) : Bool := inp.length == Config.blockBytes

/-- Rule R49: the payload of ECBE, ECBD, CBCE and CBCD is a multiple of 16 bytes, zero included. -/
def isBuffer (inp : List Byte) : Bool := inp.length % Config.blockBytes == 0

/-- Rule R49: the payload of STAT is empty. -/
def isEmptyPayload (inp : List Byte) : Bool := inp.length == 0

/-- The first 16 bytes of a byte string as a block, `s[0..15]` (rule R10). -/
def blockOf (bs : List Byte) : Block := tabulate fun i => bs.getD i.val 0

/-- Rule R50: the first `n` blocks of a payload, block i being bytes 16i to 16i+15. -/
def blocksOf : Nat → List Byte → List Block
  | 0, _ => []
  | n + 1, bs => blockOf bs :: blocksOf n (bs.drop Config.blockBytes)

/-- Rule R50: the blocks of a legal payload, `n = LEN/16` of them. -/
def payloadBlocks (inp : List Byte) : List Block := blocksOf (inp.length / Config.blockBytes) inp

/-- Rule R50: a response payload made of blocks, block 0 first (rule R56). -/
def joinBlocks (bs : List Block) : List Byte := bs.flatMap Vector.toList

end Sys2Proof.Machine
end

