-- ==== Sys2Proof/Machine/Ops.lean ====
section
/-! DEFINITION. The named operations over the state: taking a frame from the command stream, answering on the response
stream, ERROR ENTRY (`60_exceptions.md` rule R207: what this hardware has in the place of an exception), the writes of the
scheduled cipher and of the chaining value, reset, and waiting. There is no return from an error and nothing to restore
(rule R208): the next frame is simply executed. -/

namespace Sys2Proof.Machine

/-- The frame just executed is gone from the command stream, its payload included (rule R63). -/
def State.takeFrame (s : State) (rest : List Byte) : State := { s with cmd := rest }

/-- Rule R64: put one response frame on the response stream, after the responses already there (rule R51). -/
def State.respond (s : State) (st : Byte) (out : List Byte) : State := { s with rsp := s.rsp ++ frame st out }

/-- Rule R28: set `ERR` and `LAST_ERR`. -/
def State.recordError (s : State) (e : ErrorCode) : State := { s with err := true, lastErr := e.code }

/-- `OK(out)` of rule R12: respond with status 0x00 and payload `out`. -/
def ok (out : List Byte) (s : State) : Result := .next (s.respond 0x00 out)

/-- Rule R207, error entry: record the error, respond with its code and no payload, change nothing else. -/
def raiseError (e : ErrorCode) (s : State) : Result := .next ((s.recordError e).respond (e.code.setWidth 8) [])

/-- Rules R113 to R116: store the whole scheduled cipher of a key and close the CBC stream, as one update (rule R53).
`S_KEY[k..3]`, `CV`, `ERR` and `LAST_ERR` keep their values (rule R110). -/
def State.commitKey (s : State) (key : List Byte) : State :=
  { s with
    sKey := tabulate fun i => if i.val < keyDepth key then sboxKey key i.val else s.sKey[i]
    lKey := subkeys key
    mkTab := mkTables (sboxKeys key)
    k := BitVec.ofNat 3 (keyDepth key)
    keyValid := true
    ivValid := false }

/-- Rule R160: load the initialization vector, byte for byte, and open the CBC stream. -/
def State.loadIv (s : State) (iv : Block) : State := { s with cv := iv, ivValid := true }

/-- Rules R161 and R162: the chaining value that a CBC command leaves. -/
def State.setCv (s : State) (cv : Block) : State := { s with cv := cv }

/-- `ENC(B)` under the scheduled cipher (rule R131). -/
def State.enc (s : State) (b : Block) : Block := encBlock s.lKey s.mkTab b

/-- `DEC(B)` under the scheduled cipher (rule R137). -/
def State.dec (s : State) (b : Block) : Block := decBlock s.lKey s.mkTab b

/-- Rules R230 and R231: the effect of reset, complete when `rst` is released. It does not depend on the state before: a
command partly received is lost, and so is a response partly sent. -/
def resetStep (_ : State) : Result := .next State.reset

/-- Rules R66 and R201: a whole frame with a reserved opcode. Its payload is skipped and nothing of it is kept. -/
def reservedStep (rest : List Byte) (s : State) : Result := raiseError .badOp (s.takeFrame rest)

/-- Rules R42 and R242: no whole frame is there, so no step is possible; which of the two ways to wait it is. -/
def waitStep (s : State) : Result := if s.cmd.isEmpty then .fault .idle else .fault .partialFrame

end Sys2Proof.Machine
end

