-- ==== Sys2Proof/Machine/BlockOps.lean ====
section
/-! DEFINITION. The single-block commands, `42_block.md`. -/

namespace Sys2Proof.Machine

/-- ENCB (rule R130). Neither `CV` nor any other state but the streams is written. -/
def execEncb (inp : List Byte) (s : State) : Result :=
  if !s.keyValid then raiseError .noKey s
  else if !isBlock inp then raiseError .len s
  else ok (s.enc (blockOf inp)).toList s

/-- DECB (rule R136). Every 16-byte value is a legal ciphertext block. -/
def execDecb (inp : List Byte) (s : State) : Result :=
  if !s.keyValid then raiseError .noKey s
  else if !isBlock inp then raiseError .len s
  else ok (s.dec (blockOf inp)).toList s

end Sys2Proof.Machine
end

