-- ==== Sys2Proof/Machine/Cbc.lean ====
section
/-! DEFINITION. The Cipher Block Chaining commands, `44_cbc.md`. One chaining value serves both directions (rule R164). -/

namespace Sys2Proof.Machine

/-- Rule R161, the loop: XOR each block with the chaining value, encrypt, emit, and chain on the ciphertext just produced.
The answer is the blocks emitted and the chaining value left. -/
def cbcEncrypt (enc : Block → Block) : Block → List Block → List Block × Block
  | cv, [] => ([], cv)
  | cv, p :: ps =>
    let y := enc (xorBlock p cv)
    let r := cbcEncrypt enc y ps
    (y :: r.1, r.2)

/-- Rule R162, the loop: decrypt each block, XOR with the chaining value, emit, and chain on the ciphertext just CONSUMED. -/
def cbcDecrypt (dec : Block → Block) : Block → List Block → List Block × Block
  | cv, [] => ([], cv)
  | cv, y :: ys =>
    let r := cbcDecrypt dec y ys
    (xorBlock (dec y) cv :: r.1, r.2)

/-- CBCI (rule R160). Every 16-byte value is a legal IV; an open stream is simply replaced. -/
def execCbci (iv : List Byte) (s : State) : Result :=
  if !s.keyValid then raiseError .noKey s
  else if !isBlock iv then raiseError .len s
  else ok [] (s.loadIv (blockOf iv))

/-- CBCE (rule R161). With an empty payload `CV` stays as it is. -/
def execCbce (inp : List Byte) (s : State) : Result :=
  if !s.keyValid then raiseError .noKey s
  else if !s.ivValid then raiseError .noIv s
  else if !isBuffer inp then raiseError .len s
  else
    let r := cbcEncrypt s.enc s.cv (payloadBlocks inp)
    ok (joinBlocks r.1) (s.setCv r.2)

/-- CBCD (rule R162). -/
def execCbcd (inp : List Byte) (s : State) : Result :=
  if !s.keyValid then raiseError .noKey s
  else if !s.ivValid then raiseError .noIv s
  else if !isBuffer inp then raiseError .len s
  else
    let r := cbcDecrypt s.dec s.cv (payloadBlocks inp)
    ok (joinBlocks r.1) (s.setCv r.2)

end Sys2Proof.Machine
end

