-- ==== Sys2Proof/Machine/Ecb.lean ====
section
/-! DEFINITION. The Electronic Codebook commands, `43_ecb.md`. -/

namespace Sys2Proof.Machine

/-- ECBE (rule R150): every block on its own, no chaining state. An empty payload is legal. -/
def execEcbe (inp : List Byte) (s : State) : Result :=
  if !s.keyValid then raiseError .noKey s
  else if !isBuffer inp then raiseError .len s
  else ok (joinBlocks ((payloadBlocks inp).map s.enc)) s

/-- ECBD (rule R151). No padding is looked for or removed. -/
def execEcbd (inp : List Byte) (s : State) : Result :=
  if !s.keyValid then raiseError .noKey s
  else if !isBuffer inp then raiseError .len s
  else ok (joinBlocks ((payloadBlocks inp).map s.dec)) s

end Sys2Proof.Machine
end

