-- ==== Sys2Proof/Machine/Schedule.lean ====
section
/-! DEFINITION. The key schedule command, `41_key_schedule.md`. -/

namespace Sys2Proof.Machine

/-- SCHED (rule R110). It needs neither a key nor an IV and accepts every key value; another length than 16, 24 or 32
raises E_KEYLEN and leaves the old key in force (rules R117, R120). -/
def execSched (key : List Byte) (s : State) : Result :=
  if isKey key then ok [] (s.commitKey key) else raiseError .keyLen s

end Sys2Proof.Machine
end

