-- ==== Sys2Proof/Machine/System.lean ====
section
/-! DEFINITION. The system command, `45_system.md`. -/

namespace Sys2Proof.Machine

/-- STAT (rule R180): the status word, least significant byte first. It needs no key and no IV and clears nothing. -/
def execStat (inp : List Byte) (s : State) : Result :=
  if !isEmptyPayload inp then raiseError .len s
  else ok (wordBytes (statusWord s)) s

end Sys2Proof.Machine
end

