-- ==== Sys2Proof/Machine/Dispatch.lean ====
section
/-! DEFINITION. The meaning of every command: one arm per constructor of `Instr`. -/

namespace Sys2Proof.Machine

def exec (i : Instr) (s : State) : Host.Outcome State Fault Refusal :=
  match i with
  | .sched key => Sys2Proof.Machine.execSched key s
  | .encb inp => Sys2Proof.Machine.execEncb inp s
  | .decb inp => Sys2Proof.Machine.execDecb inp s
  | .ecbe inp => Sys2Proof.Machine.execEcbe inp s
  | .ecbd inp => Sys2Proof.Machine.execEcbd inp s
  | .cbci iv => Sys2Proof.Machine.execCbci iv s
  | .cbce inp => Sys2Proof.Machine.execCbce inp s
  | .cbcd inp => Sys2Proof.Machine.execCbcd inp s
  | .stat inp => Sys2Proof.Machine.execStat inp s

end Sys2Proof.Machine
end

