-- ==== Sys2Proof/Machine/Step.lean ====
section
/-! DEFINITION. One step of TFCORE is one whole command (`20_memory.md` rule R42): it takes the frame at the front of the
command stream, executes it, and puts its one response on the response stream. A pending reset comes first and discards
whatever is on the streams (`70_reset_and_hazards.md` rule R231, `93_implementation_defined.md` U9). -/

namespace Sys2Proof.Machine

def step (s : State) : Host.Outcome State Fault Refusal :=
  if s.rst then resetStep s
  else
    match decode s.cmd with
    | .command i rest => exec i (s.takeFrame rest)
    | .reserved _ rest => reservedStep rest s
    | .incomplete => waitStep s

/-- The state in which the very next step executes the frame with those bits: the frame stands at the front of the command
stream, before what was there, and no reset is pending (log entry 5: a program is sent by the host, frame by frame). -/
def State.withFetchWord (s : State) (nbits w : Nat) : State :=
  { s with rst := false, cmd := tableFrame nbits w ++ s.cmd }

end Sys2Proof.Machine
end

