-- ==== Sys2Proof/Machine/Assembler.lean ====
section
/-! DEFINITION. The textual form of commands and responses (`30_encoding.md` rules R68 and R69): lines of text to commands,
the two pseudo-commands, and commands and responses to lines of text. Text is a list of characters. -/

namespace Sys2Proof.Machine

/-- Rule R62: the nine mnemonics with their opcodes. -/
def mnemonics : List (String × Byte) :=
  [("SCHED", 0x01), ("ENCB", 0x02), ("DECB", 0x03), ("ECBE", 0x04), ("ECBD", 0x05), ("CBCI", 0x06), ("CBCE", 0x07),
   ("CBCD", 0x08), ("STAT", 0x09)]

/-- The pieces of a payload's text (rule R68). -/
inductive TextToken where
  /-- Two hexadecimal digits. -/
  | byte (b : Byte)
  /-- One character of an ASCII string in double quotes. -/
  | char (b : Byte)
  /-- `*n`, n decimal. -/
  | times (n : Nat)
  /-- `..`. -/
  | dots
deriving DecidableEq, Repr

/-- Where in a payload's text the reader is. -/
inductive LexMode where
  | plain
  | hex (hi : Nibble)
  | quoted
  | star
  | number (n : Nat)
  | dot
deriving DecidableEq, Repr

/-- The value of a hexadecimal digit (rule R7); both cases of the letters are read (log entry 9). -/
def hexValue (c : Char) : Option Nibble :=
  if 48 ≤ c.toNat ∧ c.toNat ≤ 57 then some (BitVec.ofNat 4 (c.toNat - 48))
  else if 65 ≤ c.toNat ∧ c.toNat ≤ 70 then some (BitVec.ofNat 4 (c.toNat - 55))
  else if 97 ≤ c.toNat ∧ c.toNat ≤ 102 then some (BitVec.ofNat 4 (c.toNat - 87))
  else none

/-- The value of a decimal digit. -/
def decValue (c : Char) : Option Nat :=
  if 48 ≤ c.toNat ∧ c.toNat ≤ 57 then some (c.toNat - 48) else none

/-- Rule R68: the pieces of a payload's text, spaces between them left out. Where spaces may stand, where a repeat count ends
and where a quoted string ends are the model's choice beyond the rule's examples (DESIGN CHOICE, log entry 9). -/
def lexPayload : LexMode → List Char → Option (List TextToken)
  | .plain, [] => some []
  | .plain, c :: cs =>
    if c = ' ' then lexPayload .plain cs
    else if c = '"' then lexPayload .quoted cs
    else if c = '.' then lexPayload .dot cs
    else if c = '*' then lexPayload .star cs
    else (hexValue c).bind fun v => lexPayload (.hex v) cs
  | .hex _, [] => none
  | .hex hi, c :: cs => (hexValue c).bind fun lo => (lexPayload .plain cs).map (.byte (hi ++ lo) :: ·)
  | .quoted, [] => none
  | .quoted, c :: cs =>
    if c = '"' then lexPayload .plain cs
    else if c.toNat < 128 then (lexPayload .quoted cs).map (.char (BitVec.ofNat 8 c.toNat) :: ·)
    else none
  | .star, [] => none
  | .star, c :: cs => (decValue c).bind fun d => lexPayload (.number d) cs
  | .number n, [] => some [.times n]
  | .number n, c :: cs =>
    if c = ' ' then (lexPayload .plain cs).map (.times n :: ·)
    else (decValue c).bind fun d => lexPayload (.number (10 * n + d)) cs
  | .dot, [] => none
  | .dot, c :: cs => if c = '.' then (lexPayload .plain cs).map (.dots :: ·) else none

/-- Rule R68: the run that counts up by one from the first byte to the second. -/
def byteRun (a b : Byte) : List Byte := (List.range (b.toNat - a.toNat + 1)).map fun i => a + BitVec.ofNat 8 i

/-- Rule R68: the bytes that the pieces stand for. The rule gives each notation on its own and is silent on mixtures; which
are read is the model's choice (DESIGN CHOICE, log entry 9): the notations may follow one another in one payload, but a repeat
applies only to a single byte in hexadecimal, a run stands only between two of these, a run's last byte takes neither a repeat
nor another run, and a run does not count down. -/
def expandTokens : List TextToken → Option (List Byte)
  | [] => some []
  | .byte a :: .times n :: ts => (expandTokens ts).map (List.replicate n a ++ ·)
  | .byte a :: .dots :: .byte b :: ts => if a ≤ b then (expandTokens ts).map (byteRun a b ++ ·) else none
  | .byte a :: ts => (expandTokens ts).map (a :: ·)
  | .char a :: ts => (expandTokens ts).map (a :: ·)
  | .times _ :: _ => none
  | .dots :: _ => none

/-- Rule R68: the payload that a text stands for. -/
def assemblePayload (text : List Char) : Option (List Byte) := (lexPayload .plain text).bind expandTokens

/-- Rule R69: the text before and after the first comma that is outside double quotes. -/
def splitComma : Bool → List Char → Option (List Char × List Char)
  | _, [] => none
  | quoted, c :: cs =>
    if c = ',' ∧ quoted = false then some ([], cs)
    else (splitComma (if c = '"' then !quoted else quoted) cs).map fun p => (c :: p.1, p.2)

/-- Rules R68 and R69: the commands that one line of text stands for; none for a comment or an empty line, two for
`CBC_NEW key, iv`. -/
def assembleLine (line : List Char) : Option (List Instr) :=
  let word := line.takeWhile (· ≠ ' ')
  let arg := line.dropWhile (· ≠ ' ')
  if line.isEmpty ∨ line.head? = some '#' then some []
  else if word = "ECB_NEW".toList then (assemblePayload arg).map fun key => [.sched key]
  else if word = "CBC_NEW".toList then
    (splitComma false arg).bind fun p =>
      (assemblePayload p.1).bind fun key => (assemblePayload p.2).map fun iv => [.sched key, .cbci iv]
  else
    (mnemonics.find? fun m => m.1.toList = word).bind fun m =>
      (assemblePayload arg).bind fun inp => (commandOf m.2 inp).map fun i => [i]

/-- A hexadecimal digit, letters as capitals. -/
def hexChar (v : Nibble) : Char := if v.toNat < 10 then Char.ofNat (48 + v.toNat) else Char.ofNat (55 + v.toNat)

/-- Rule R7: a byte string as text, two digits per byte, first byte first. -/
def hexText (bs : List Byte) : List Char :=
  bs.flatMap fun b => [hexChar (b.extractLsb' 4 4), hexChar (b.extractLsb' 0 4)]

/-- A space and the bytes, or nothing for no bytes. -/
def hexField (bs : List Byte) : List Char := if bs.isEmpty then [] else ' ' :: hexText bs

/-- Rule R62: the mnemonic of a command. -/
def mnemonicOf : Instr → String
  | .sched _ => "SCHED"
  | .encb _ => "ENCB"
  | .decb _ => "DECB"
  | .ecbe _ => "ECBE"
  | .ecbd _ => "ECBD"
  | .cbci _ => "CBCI"
  | .cbce _ => "CBCE"
  | .cbcd _ => "CBCD"
  | .stat _ => "STAT"

/-- Rule R68: a command as one line of text. -/
def commandText (i : Instr) : List Char := (mnemonicOf i).toList ++ hexField i.payload

/-- Rule R65: the name of a status code; there is none for 0x06 to 0xFF, which are never produced. -/
def statusName (st : Byte) : Option String :=
  match st.toNat with
  | 0 => some "OK"
  | 1 => some "E_BADOP"
  | 2 => some "E_KEYLEN"
  | 3 => some "E_LEN"
  | 4 => some "E_NOKEY"
  | 5 => some "E_NOIV"
  | _ => none

/-- Rule R68: a response as text, `-> OK [hex]` or `-> E_name`. -/
def responseText (st : Byte) (out : List Byte) : Option (List Char) :=
  (statusName st).map fun name => "-> ".toList ++ name.toList ++ hexField out

end Sys2Proof.Machine
end

