-- ==== Sys2Proof/Machine/HostPort.lean ====
section
/-! DEFINITION. What the host can do to the core (`70_reset_and_hazards.md` rules R242 and R243), complete: put bytes on
the command stream, take bytes from the response stream, request reset. There is no other interaction, and the host acts
between steps (`20_memory.md` rule R42). -/

namespace Sys2Proof.Machine

/-- The host puts bytes on the command stream; they queue behind what is there (rules R51, R241). With a reset pending they
queue too, and the reset step loses them (DESIGN CHOICE, log entry 3). -/
def State.hostSend (s : State) (bs : List Byte) : State := { s with cmd := s.cmd ++ bs }

/-- The host takes the first `n` bytes of the response stream: the state without them. With a reset pending it can still take
them, until the reset step empties the stream: rule R231 does not say when after the assertion of `rst` the core stops
sending (DESIGN CHOICE, log entry 3). -/
def State.hostTake (s : State) (n : Nat) : State := { s with rsp := s.rsp.drop n }

/-- The host asserts `rst`. The next step is the reset, and only that (rule R230). -/
def State.hostReset (s : State) : State := { s with rst := true }

/-- Rule R235, how the host reads the response stream: status code, payload, and the stream after it. -/
def readResponse (stream : List Byte) : Option (Byte × List Byte × List Byte) := splitFrame stream

/-- Rule R242: the host sends one whole frame to an idle core and the core serves it. -/
def serve (f : List Byte) (s : State) : Result := step (s.hostSend f)

/-- Rule R242, a run: serve the frames in order; the responses queue up on the response stream. -/
def serveAll : List (List Byte) → State → Result
  | [], s => .next s
  | f :: fs, s =>
    match serve f s with
    | .next t => serveAll fs t
    | .fault r => .fault r
    | .refused r => .refused r

end Sys2Proof.Machine
end

