-- ==== Sys2Proof/Safety.lean ====
section
/-! DEFINITION. The vocabulary of the statements: the byte-indexed views that the spec's formulas use, the table of checks
(`60_exceptions.md` rule R206), the invariant of every reachable state (`10_state.md` rule R38), the states that no
response can tell apart (rule R37, `93_implementation_defined.md` U6), and reachability. Each is written from the spec's
own formula, not from the meaning it speaks about. -/

namespace Sys2Proof.Safety

open Sys2Proof.Machine

/-- Rules R61 and R64: the four header bytes of a frame whose first byte is `low` and whose payload has `n` bytes. -/
def headerBytes (low : Byte) (n : Nat) : List Byte :=
  [low, BitVec.ofNat 8 n, BitVec.ofNat 8 (n / 256), BitVec.ofNat 8 (n / 65536)]

/-- Rule R50: block i of a byte string, its bytes 16i to 16i+15. -/
def blockAt (bs : List Byte) (i : Nat) : Block := tabulate fun j => bs.getD (16 * i + j.val) 0

/-- Rule R206, second column: the commands that make check 2 (E_NOKEY). -/
def needsKey : Instr → Bool
  | .sched _ => false
  | .encb _ => true
  | .decb _ => true
  | .ecbe _ => true
  | .ecbd _ => true
  | .cbci _ => true
  | .cbce _ => true
  | .cbcd _ => true
  | .stat _ => false

/-- Rule R206, third column: the commands that make check 3 (E_NOIV). -/
def needsIv : Instr → Bool
  | .sched _ => false
  | .encb _ => false
  | .decb _ => false
  | .ecbe _ => false
  | .ecbd _ => false
  | .cbci _ => false
  | .cbce _ => true
  | .cbcd _ => true
  | .stat _ => false

/-- Rule R206, last column: the lengths that an opcode allows. -/
def lenAllowed : Instr → Prop
  | .sched key => key.length = 16 ∨ key.length = 24 ∨ key.length = 32
  | .encb inp => inp.length = 16
  | .decb inp => inp.length = 16
  | .ecbe inp => inp.length % 16 = 0
  | .ecbd inp => inp.length % 16 = 0
  | .cbci iv => iv.length = 16
  | .cbce inp => inp.length % 16 = 0
  | .cbcd inp => inp.length % 16 = 0
  | .stat inp => inp.length = 0

/-- Rule R206, last column: the code of a wrong length. -/
def lenError : Instr → ErrorCode
  | .sched _ => .keyLen
  | .encb _ => .len
  | .decb _ => .len
  | .ecbe _ => .len
  | .ecbd _ => .len
  | .cbci _ => .len
  | .cbce _ => .len
  | .cbcd _ => .len
  | .stat _ => .len

/-- Rule R206: error `e` is the answer to command `i` in state `s`: its check fails and every check before it passes. -/
inductive Raises (i : Instr) (s : State) : ErrorCode → Prop where
  | noKey : needsKey i = true → s.keyValid = false → Raises i s .noKey
  | noIv : needsIv i = true → s.keyValid = true → s.ivValid = false → Raises i s .noIv
  | len : (needsKey i = true → s.keyValid = true) → (needsIv i = true → s.ivValid = true) → ¬ lenAllowed i →
      Raises i s (lenError i)

/-- Rule R206: every check of command `i` passes in state `s`. -/
def Passes (i : Instr) (s : State) : Prop :=
  (needsKey i = true → s.keyValid = true) ∧ (needsIv i = true → s.ivValid = true) ∧ lenAllowed i

/-- Rule R207: the state after an error of code `code`: the error record is written and the response is the code, with no
payload; everything else is as it was. -/
def failed (s : State) (code : BitVec 3) : State :=
  { s with err := true, lastErr := code, rsp := s.rsp ++ [code.setWidth 8, 0x00, 0x00, 0x00] }

/-- Rule R38, item 2: the scheduled cipher in `s` is the one that rules R113 to R115 compute from `key`. -/
structure Scheduled (key : List Byte) (s : State) : Prop where
  length : key.length = 8 * s.k.toNat
  sKeys : ∀ i : Fin 4, i.val < s.k.toNat → s.sKey[i] = sboxKey key i.val
  lKeys : s.lKey = subkeys key
  tables : s.mkTab = mkTables (sboxKeys key)

/-- Rule R38, with the values that rules R22 and R28 allow for `K` and `LAST_ERR`. -/
structure Inv (s : State) : Prop where
  noKey : s.keyValid = false ↔ s.k = 0
  depth : s.k = 0 ∨ s.k = 2 ∨ s.k = 3 ∨ s.k = 4
  scheduled : s.keyValid = true → ∃ key, Scheduled key s
  ivNeedsKey : s.ivValid = true → s.keyValid = true
  noError : s.err = false ↔ s.lastErr = 0
  lastErr : s.lastErr.toNat ≤ 5

/-- Two states that differ at most in what is unreadable in them (rules R24, R37, U6): the scheduled cipher while
`KEY_VALID = 0`, `S_KEY[k..3]` always, and `CV` while `IV_VALID = 0`. -/
structure Agree (s t : State) : Prop where
  keyValid : s.keyValid = t.keyValid
  k : s.k = t.k
  sKeys : s.keyValid = true → ∀ i : Fin 4, i.val < s.k.toNat → s.sKey[i] = t.sKey[i]
  lKeys : s.keyValid = true → s.lKey = t.lKey
  tables : s.keyValid = true → s.mkTab = t.mkTab
  ivValid : s.ivValid = t.ivValid
  cv : s.ivValid = true → s.cv = t.cv
  err : s.err = t.err
  lastErr : s.lastErr = t.lastErr
  rst : s.rst = t.rst
  cmd : s.cmd = t.cmd
  rsp : s.rsp = t.rsp

/-- The same outcome, with next states that agree on all that is readable. -/
def SameOutcome : Result → Result → Prop
  | .next s, .next t => Agree s t
  | .fault a, .fault b => a = b
  | .refused a, .refused b => a = b
  | _, _ => False

/-- Rules R242 and R243: the states of a session, whatever the host does between steps. -/
inductive Reachable : State → Prop where
  | reset : Reachable State.reset
  | send {s : State} (bs : List Byte) : Reachable s → Reachable (s.hostSend bs)
  | take {s : State} (n : Nat) : Reachable s → Reachable (s.hostTake n)
  | rst {s : State} : Reachable s → Reachable s.hostReset
  | step {s t : State} : Reachable s → step s = .next t → Reachable t

/-- A step is possible in `s`, be it the reset or the execution of a frame. In a safe run a core is without one only while it
waits for the host (rule R200: "no hang, no partial result, no undefined state"). -/
def CanStep (s : State) : Prop := ∃ t, step s = .next t

end Sys2Proof.Safety
end

