-- ==== Sys2Proof/Certificates/Slice0/Obligations.lean ====
section
/-! DEFINITION. The statements for the provers. Each docstring names the rule of spec/ that it formalises. -/

section

open Sys2Proof Sys2Proof.Machine Sys2Proof.Safety

/-! Encoding. -/

/-- Rules R60 to R63: the decoder reads every well-formed command back from its frame, whatever follows it on the
stream, with every payload byte in its place. The frame is built from the header WORD (R61), the decoder reads header
BYTES (R63). -/
def Obligations.DecodeOfEncodeIsTheCommand : Prop :=
  ∀ (i : Instr) (rest : List Byte), i.wf = true → decode (encode i ++ rest) = .command i rest

/-- Rules R60 to R63, the other direction: what the decoder reads as a command is that command's one frame, and the
command is well formed. -/
def Obligations.DecodedCommandIsItsOneFrame : Prop :=
  ∀ (bs rest : List Byte) (i : Instr), decode bs = .command i rest → i.wf = true ∧ bs = encode i ++ rest

/-- Rules R60, R61 and R64: the bytes of every frame, command or response, header included. -/
def Obligations.FrameBytesAreHeaderThenPayload : Prop :=
  ∀ (low : Byte) (payload : List Byte), frame low payload = headerBytes low payload.length ++ payload

/-- Rule R61: the fields of the header word, the number it is, and where its fields stand in the stream bytes. -/
def Obligations.HeaderWordHoldsOpcodeAndLength : Prop :=
  ∀ (low : Byte) (len : Nat), len ≤ 16777215 →
    (frameHeader low len).extractLsb' 0 8 = low ∧ ((frameHeader low len).extractLsb' 8 24).toNat = len ∧
      frameHeader low len = BitVec.ofNat 32 (low.toNat + 256 * len) ∧
      wordBytes (frameHeader low len) = headerBytes low len

/-- Rules R62 and R70: frames written out from the spec's encoding decode to their commands. -/
def Obligations.WrittenOutFramesDecode : Prop :=
  decode (0x01 :: 0x10 :: 0x00 :: 0x00 :: List.replicate 16 0x00) = .command (.sched (List.replicate 16 0x00)) [] ∧
  decode [0x02, 0x00, 0x00, 0x00] = .command (.encb []) [] ∧
  decode (0x03 :: 0x0F :: 0x00 :: 0x00 :: List.replicate 15 0x00) = .command (.decb (List.replicate 15 0x00)) [] ∧
  decode [0x04, 0x00, 0x00, 0x00, 0x09] = .command (.ecbe []) [0x09] ∧
  decode [0x05, 0x00, 0x00, 0x00] = .command (.ecbd []) [] ∧
  decode [0x06, 0x00, 0x00, 0x00] = .command (.cbci []) [] ∧
  decode [0x07, 0x05, 0x00, 0x00, 0x01, 0x02, 0x03, 0x04, 0x05] = .command (.cbce [0x01, 0x02, 0x03, 0x04, 0x05]) [] ∧
  decode [0x08, 0x00, 0x00, 0x00] = .command (.cbcd []) [] ∧
  decode [0x09, 0x00, 0x00, 0x00, 0x09, 0x00, 0x00, 0x00] = .command (.stat []) [0x09, 0x00, 0x00, 0x00] ∧
  decode [0x55, 0x03, 0x00, 0x00, 0xAA, 0xBB, 0xCC] = .reserved 0x55 [] ∧
  decode [0x00, 0x00, 0x00, 0x00] = .reserved 0x00 []

/-- Rules R64 and R235: a host that reads `ST` and `RLEN` first gets every response back from the response stream. -/
def Obligations.ResponseFrameReadsBack : Prop :=
  ∀ (st : Byte) (out rest : List Byte), out.length ≤ 16777215 →
    readResponse (frame st out ++ rest) = some (st, out, rest)

/-- Rule R68: the text of a command is assembled back to that command alone. -/
def Obligations.CommandTextAssemblesBack : Prop :=
  ∀ i : Instr, assembleLine (commandText i) = some [i]

/-- Rule R69: the two pseudo-commands expand to the commands shown, for every key and IV. -/
def Obligations.PseudoCommandsExpand : Prop :=
  ∀ key iv : List Byte,
    assembleLine ("ECB_NEW ".toList ++ hexText key) = some [.sched key] ∧
      assembleLine ("CBC_NEW ".toList ++ hexText key ++ ", ".toList ++ hexText iv) = some [.sched key, .cbci iv]

/-! The step. -/

/-- Rule R42: when a whole frame of a command is at the front of the command stream and no reset is pending, the step is
that command's meaning in the state from which the frame's bytes, header and payload, are gone. -/
def Obligations.StepExecutesTheDecodedCommand : Prop :=
  ∀ (s : State) (i : Instr) (rest : List Byte), s.rst = false → i.wf = true → s.cmd = encode i ++ rest →
    step s = exec i { s with cmd := rest }

/-- Rules R66 and R201: a whole frame with a reserved opcode, of any length, is skipped and answered E_BADOP, and changes
nothing but the error record. -/
def Obligations.ReservedOpcodesAnswerBadOp : Prop :=
  ∀ (s : State) (opc : Byte) (payload rest : List Byte), opc.toNat = 0 ∨ 10 ≤ opc.toNat → payload.length ≤ 16777215 →
    s.rst = false → s.cmd = frame opc payload ++ rest →
    decode s.cmd = .reserved opc rest ∧
      step s = .next (failed { s with cmd := rest } 1)

/-- Rules R42 and R239 (U8, "stuck"; that it is a fault with one of two names is the model's choice, log entry 4): no
part of a frame is ever executed. While the stream holds a proper prefix of any frame, of a command or not, there is no
step: the core is idle or waits for the rest. -/
def Obligations.PartOfAFrameHasNoStep : Prop :=
  ∀ (s : State) (opc : Byte) (payload : List Byte) (n : Nat), payload.length ≤ 16777215 → n < 4 + payload.length →
    s.rst = false → s.cmd = (frame opc payload).take n →
    step s = .fault (if n = 0 then .idle else .partialFrame)

/-- Rules R200 and R208: a step is always possible when a whole frame waits at the front of the command stream, whatever
the state, the opcode and the payload; there is no hang and no locked mode. With no reset pending the step serves that
frame; with a reset pending it is the reset step and the frame is discarded, which is the model's choice (log entry 3).
That a step needs no host that takes the responses is the model's choice too (log entry 6). -/
def Obligations.StepIsPossibleWhenAWholeFrameWaits : Prop :=
  ∀ (s : State) (opc : Byte) (payload rest : List Byte), payload.length ≤ 16777215 → s.cmd = frame opc payload ++ rest →
    CanStep s

/-- Rules R51, R64 and R65: a step that is no reset takes one whole frame and answers it with exactly one response, behind
the responses already on the stream; its status code is 0 to 5, and an error comes with no data. -/
def Obligations.OneResponsePerFrame : Prop :=
  ∀ s t : State, s.rst = false → step s = .next t →
    (∃ (opc : Byte) (payload : List Byte), payload.length ≤ 16777215 ∧ s.cmd = frame opc payload ++ t.cmd) ∧
      ∃ (st : Byte) (out : List Byte), t.rsp = s.rsp ++ frame st out ∧ st.toNat ≤ 5 ∧ (st ≠ 0 → out = [])

/-- Rules R51 and R241: bytes that the host sends ahead of their turn, the whole next frame or a part of it, change
nothing of the step before them. -/
def Obligations.SendingAheadChangesNothing : Prop :=
  ∀ (s t : State) (bs : List Byte), s.rst = false → step s = .next t → step (s.hostSend bs) = .next (t.hostSend bs)

/-- Rule R242: a run is the fold of the step over the frames. All frames sent at once and as many steps give what serving
them one by one gives: the same final state and the same responses, and the core ends idle. That all frames are served
while no response is taken is the model's choice (log entry 6). -/
def Obligations.RunIsTheFoldOverFrames : Prop :=
  ∀ (s : State) (fs : List (Byte × List Byte)), s.rst = false → s.cmd = [] →
    (∀ f ∈ fs, f.2.length ≤ 16777215) →
    ∃ t, serveAll (fs.map fun f => frame f.1 f.2) s = .next t ∧ t.cmd = [] ∧ t.rst = false ∧
      Host.Core.run Sys2Proof.core fs.length (s.hostSend (fs.flatMap fun f => frame f.1 f.2)) = .next t

/-! Reset. -/

/-- Rules R230 and R231: a pending reset is the next step, whatever the state and whatever part of a frame has arrived;
it leaves the reset state, with nothing of the key, the chaining value or the streams. That assertion to release is ONE
step is the model's choice (log entry 3), and so are the zeros that stand in `State.reset` for what R37 leaves
unspecified (log entry 1). -/
def Obligations.ResetStepLeavesTheResetState : Prop :=
  ∀ s : State, step s.hostReset = .next State.reset

/-- Rule R37, the items it gives a value: after reset no key is scheduled, no CBC stream is open, no error is recorded,
`STATUS` reads 0; and by rule R230 both streams are empty. (What the rule leaves unspecified is log entry 1.) -/
def Obligations.ResetStateAsTheSpecGivesIt : Prop :=
  State.reset.keyValid = false ∧ State.reset.k = 0 ∧ State.reset.ivValid = false ∧ State.reset.err = false ∧
    State.reset.lastErr = 0 ∧ statusWord State.reset = 0 ∧ State.reset.cmd = [] ∧ State.reset.rsp = [] ∧
    State.reset.rst = false

/-! Errors. -/

/-- Rule R207: error entry. The step of a command that raises an error takes the whole frame, payload included, writes the
error record, answers with the code and no payload, and changes nothing else. The codes are those of rule R65. -/
def Obligations.ErrorEntryWritesOnlyTheRecord : Prop :=
  (ErrorCode.badOp.code = 1 ∧ ErrorCode.keyLen.code = 2 ∧ ErrorCode.len.code = 3 ∧ ErrorCode.noKey.code = 4 ∧
    ErrorCode.noIv.code = 5) ∧
  ∀ (s : State) (i : Instr) (rest : List Byte) (e : ErrorCode), s.rst = false → i.wf = true →
    s.cmd = encode i ++ rest → Raises i { s with cmd := rest } e →
    step s = .next (failed { s with cmd := rest } e.code)

/-- Rules R200 and R206: the checks in their fixed order decide every command's answer. If one fails, the first that
does gives the error; if all pass, the answer is OK and the error record is untouched. -/
def Obligations.ChecksDecideEveryAnswer : Prop :=
  ∀ (i : Instr) (s : State),
    (∀ e, Raises i s e → exec i s = .next (failed s e.code)) ∧
      (Passes i s → ∃ t out, exec i s = .next t ∧ t.rsp = s.rsp ++ headerBytes 0x00 out.length ++ out ∧
        t.err = s.err ∧ t.lastErr = s.lastErr) ∧
      (Passes i s ∨ ∃ e, Raises i s e)

/-- Rules R117, R120 and R202: a SCHED of any other length answers E_KEYLEN; the old key stays valid and usable and the
CBC stream stays open. -/
def Obligations.SchedRefusesEveryOtherLength : Prop :=
  ∀ (key : List Byte) (s : State), key.length ≠ 16 → key.length ≠ 24 → key.length ≠ 32 →
    exec (.sched key) s = .next (failed s 2)

/-- Rule R165 (the spec derives it from R160 to R162 and R13): a CBC command that raises leaves the whole mode state and
the scheduled cipher exactly as they were, so the stream goes on with the next good command as if the failed one had not
been sent: that command's response bytes and the chaining value it leaves are the same. -/
def Obligations.FailedCbcCommandLeavesTheStream : Prop :=
  ∀ (bad good : Instr) (s t u : State) (e : ErrorCode),
    (∃ x, bad = .cbci x ∨ bad = .cbce x ∨ bad = .cbcd x) → (∃ x, good = .cbci x ∨ good = .cbce x ∨ good = .cbcd x) →
    Raises bad s e → exec bad s = .next t → exec good t = .next u →
    t.cv = s.cv ∧ t.ivValid = s.ivValid ∧
      ∃ v out, exec good s = .next v ∧ u.cv = v.cv ∧ u.ivValid = v.ivValid ∧ v.rsp = s.rsp ++ out ∧ u.rsp = t.rsp ++ out

/-- Rule R28: `ERR` is sticky and `LAST_ERR` is the code of the latest failing frame. Both are 0 after reset; a step that
answers OK changes neither, and a step that answers an error sets both; only reset clears them. -/
def Obligations.ErrorRecordIsSticky : Prop :=
  (∀ s t : State, s.rst = true → step s = .next t → t.err = false ∧ t.lastErr = 0) ∧
  ∀ s t : State, s.rst = false → step s = .next t →
    (∃ out, t.rsp = s.rsp ++ headerBytes 0x00 out.length ++ out ∧ t.err = s.err ∧ t.lastErr = s.lastErr) ∨
      ∃ e : ErrorCode, t.rsp = s.rsp ++ [e.code.setWidth 8, 0x00, 0x00, 0x00] ∧ t.err = true ∧ t.lastErr = e.code ∧
        e.code ≠ 0

/-- Rule R208: an error locks nothing. Every command but STAT answers with the same bytes and leaves the same state
whatever errors were recorded before it, the record itself apart. -/
def Obligations.ErrorRecordSteersNothing : Prop :=
  ∀ (i : Instr) (s t : State) (err : Bool) (lastErr : BitVec 3), (∀ x, i ≠ .stat x) → exec i s = .next t →
    ∃ u, exec i { s with err := err, lastErr := lastErr } = .next u ∧
      { u with err := t.err, lastErr := t.lastErr } = t

/-! The commands. -/

/-- Rules R110 and R113 to R116: what SCHED writes for a legal key, entry by entry, and its whole frame: `S_KEY[k..3]`,
`CV`, the error record and the command stream keep their values. -/
def Obligations.SchedStoresTheKeySchedule : Prop :=
  ∀ (key : List Byte) (s : State), key.length = 16 ∨ key.length = 24 ∨ key.length = 32 →
    ∃ t, exec (.sched key) s = .next t ∧ t.keyValid = true ∧ t.k.toNat = key.length / 8 ∧ t.ivValid = false ∧
      (∀ i : Fin 4, t.sKey[i] = if i.val < key.length / 8
        then rsMul (keyWord key (2 * i.val)) (keyWord key (2 * i.val + 1)) else s.sKey[i]) ∧
      (∀ (i : Nat) (hi : i < 20),
        t.lKey[2 * i] = h (BitVec.ofNat 32 (2 * i) * 0x01010101) (evenWords key) +
          rol32 (h (BitVec.ofNat 32 (2 * i + 1) * 0x01010101) (oddWords key)) 8 ∧
        t.lKey[2 * i + 1] = rol32 (h (BitVec.ofNat 32 (2 * i) * 0x01010101) (evenWords key) +
          2 * rol32 (h (BitVec.ofNat 32 (2 * i + 1) * 0x01010101) (oddWords key)) 8) 9) ∧
      (∀ (j : Fin 4) (b : Fin 256), t.mkTab[j][b] =
        mAt j (keyedLayers j ((List.range (key.length / 8)).map fun n => t.sKey.toList.getD (key.length / 8 - 1 - n) 0)
          (key.length / 8) (BitVec.ofFin b))) ∧
      t = { s with keyValid := true, k := t.k, sKey := t.sKey, lKey := t.lKey, mkTab := t.mkTab, ivValid := false,
                   rsp := s.rsp ++ [0x00, 0x00, 0x00, 0x00] }

/-- Rule R119 (and R118; the spec derives the equality from R111 to R115): SCHED is a function of the key bytes alone;
what the state held before, another key among it, is nowhere in the new scheduled cipher. -/
def Obligations.SchedDependsOnTheKeyAlone : Prop :=
  ∀ (key : List Byte) (s s' t t' : State), key.length = 16 ∨ key.length = 24 ∨ key.length = 32 →
    exec (.sched key) s = .next t → exec (.sched key) s' = .next t' →
    t.k = t'.k ∧ t.lKey = t'.lKey ∧ t.mkTab = t'.mkTab ∧ ∀ i : Fin 4, i.val < t.k.toNat → t.sKey[i] = t'.sKey[i]

/-- Rule R130: ENCB. With a key and a 16-byte payload, frame `02 10 00 00` and the block, it answers the one encrypted
block and writes nothing else; otherwise it raises E_NOKEY or, with a key, E_LEN. -/
def Obligations.EncbAnswersTheEncryptedBlock : Prop :=
  ∀ (inp : List Byte) (s : State),
    (s.keyValid = true → inp.length = 16 →
      encode (.encb inp) = [0x02, 0x10, 0x00, 0x00] ++ inp ∧
      exec (.encb inp) s = .next { s with rsp :=
        s.rsp ++ [0x00, 0x10, 0x00, 0x00] ++ (encBlock s.lKey s.mkTab (blockAt inp 0)).toList }) ∧
    (s.keyValid = false → exec (.encb inp) s = .next (failed s 4)) ∧
    (s.keyValid = true → inp.length ≠ 16 → exec (.encb inp) s = .next (failed s 3))

/-- Rule R136: DECB. With a key and a 16-byte payload, frame `03 10 00 00` and the block, it answers the one decrypted
block and writes nothing else; otherwise it raises E_NOKEY or, with a key, E_LEN. -/
def Obligations.DecbAnswersTheDecryptedBlock : Prop :=
  ∀ (inp : List Byte) (s : State),
    (s.keyValid = true → inp.length = 16 →
      encode (.decb inp) = [0x03, 0x10, 0x00, 0x00] ++ inp ∧
      exec (.decb inp) s = .next { s with rsp :=
        s.rsp ++ [0x00, 0x10, 0x00, 0x00] ++ (decBlock s.lKey s.mkTab (blockAt inp 0)).toList }) ∧
    (s.keyValid = false → exec (.decb inp) s = .next (failed s 4)) ∧
    (s.keyValid = true → inp.length ≠ 16 → exec (.decb inp) s = .next (failed s 3))

/-- Rule R150: ECBE. With a key and a multiple of 16 bytes, zero included, it answers LEN bytes, block i of which is the
encryption of block i of the payload, and writes nothing else; otherwise it raises E_NOKEY or, with a key, E_LEN, with no
output. -/
def Obligations.EcbeEncryptsBlockByBlock : Prop :=
  ∀ (inp : List Byte) (s : State),
    (s.keyValid = true → inp.length % 16 = 0 →
      encode (.ecbe inp) = headerBytes 0x04 inp.length ++ inp ∧
      ∃ out, exec (.ecbe inp) s = .next { s with rsp := s.rsp ++ headerBytes 0x00 inp.length ++ out } ∧
        out.length = inp.length ∧
        ∀ i, i < inp.length / 16 → blockAt out i = encBlock s.lKey s.mkTab (blockAt inp i)) ∧
    (s.keyValid = false → exec (.ecbe inp) s = .next (failed s 4)) ∧
    (s.keyValid = true → inp.length % 16 ≠ 0 → exec (.ecbe inp) s = .next (failed s 3))

/-- Rule R151: ECBD, as ECBE with decryption in the place of encryption. -/
def Obligations.EcbdDecryptsBlockByBlock : Prop :=
  ∀ (inp : List Byte) (s : State),
    (s.keyValid = true → inp.length % 16 = 0 →
      encode (.ecbd inp) = headerBytes 0x05 inp.length ++ inp ∧
      ∃ out, exec (.ecbd inp) s = .next { s with rsp := s.rsp ++ headerBytes 0x00 inp.length ++ out } ∧
        out.length = inp.length ∧
        ∀ i, i < inp.length / 16 → blockAt out i = decBlock s.lKey s.mkTab (blockAt inp i)) ∧
    (s.keyValid = false → exec (.ecbd inp) s = .next (failed s 4)) ∧
    (s.keyValid = true → inp.length % 16 ≠ 0 → exec (.ecbd inp) s = .next (failed s 3))

/-- Rule R160: CBCI. With a key and 16 bytes, frame `06 10 00 00` and the IV, it loads the IV byte for byte and opens the
stream, whether or not one was open, and writes nothing else; otherwise it raises E_NOKEY or, with a key, E_LEN. -/
def Obligations.CbciLoadsTheIv : Prop :=
  ∀ (iv : List Byte) (s : State),
    (s.keyValid = true → iv.length = 16 →
      encode (.cbci iv) = [0x06, 0x10, 0x00, 0x00] ++ iv ∧
      ∃ cv : Block, cv.toList = iv ∧
        exec (.cbci iv) s = .next { s with cv := cv, ivValid := true, rsp := s.rsp ++ [0x00, 0x00, 0x00, 0x00] }) ∧
    (s.keyValid = false → exec (.cbci iv) s = .next (failed s 4)) ∧
    (s.keyValid = true → iv.length ≠ 16 → exec (.cbci iv) s = .next (failed s 3))

/-- Rule R161 (and the formulas of R168): CBCE. With a key, an IV and a multiple of 16 bytes it answers LEN bytes with
`C_0 = ENC(P_0 ^ CV)` and `C_i = ENC(P_i ^ C_{i-1})`, leaves the last ciphertext block in `CV` (or `CV` itself for an
empty payload), and writes nothing else; otherwise it raises E_NOKEY, then E_NOIV, then E_LEN, with no output and `CV`
kept. -/
def Obligations.CbceChainsOnTheCiphertextProduced : Prop :=
  ∀ (inp : List Byte) (s : State),
    (s.keyValid = true → s.ivValid = true → inp.length % 16 = 0 →
      encode (.cbce inp) = headerBytes 0x07 inp.length ++ inp ∧
      ∃ out cv, exec (.cbce inp) s = .next { s with cv := cv, rsp := s.rsp ++ headerBytes 0x00 inp.length ++ out } ∧
        out.length = inp.length ∧
        (0 < inp.length / 16 → blockAt out 0 = encBlock s.lKey s.mkTab (xorBlock (blockAt inp 0) s.cv)) ∧
        (∀ i, i + 1 < inp.length / 16 →
          blockAt out (i + 1) = encBlock s.lKey s.mkTab (xorBlock (blockAt inp (i + 1)) (blockAt out i))) ∧
        cv = if inp.length = 0 then s.cv else blockAt out (inp.length / 16 - 1)) ∧
    (s.keyValid = false → exec (.cbce inp) s = .next (failed s 4)) ∧
    (s.keyValid = true → s.ivValid = false → exec (.cbce inp) s = .next (failed s 5)) ∧
    (s.keyValid = true → s.ivValid = true → inp.length % 16 ≠ 0 → exec (.cbce inp) s = .next (failed s 3))

/-- Rule R162 (and the formulas of R168): CBCD. With a key, an IV and a multiple of 16 bytes it answers LEN bytes with
`P_0 = DEC(C_0) ^ CV` and `P_i = DEC(C_i) ^ C_{i-1}`, leaves the last block of the PAYLOAD in `CV` (or `CV` itself for an
empty payload), and writes nothing else; otherwise it raises E_NOKEY, then E_NOIV, then E_LEN. -/
def Obligations.CbcdChainsOnTheCiphertextConsumed : Prop :=
  ∀ (inp : List Byte) (s : State),
    (s.keyValid = true → s.ivValid = true → inp.length % 16 = 0 →
      encode (.cbcd inp) = headerBytes 0x08 inp.length ++ inp ∧
      ∃ out cv, exec (.cbcd inp) s = .next { s with cv := cv, rsp := s.rsp ++ headerBytes 0x00 inp.length ++ out } ∧
        out.length = inp.length ∧
        (0 < inp.length / 16 → blockAt out 0 = xorBlock (decBlock s.lKey s.mkTab (blockAt inp 0)) s.cv) ∧
        (∀ i, i + 1 < inp.length / 16 →
          blockAt out (i + 1) = xorBlock (decBlock s.lKey s.mkTab (blockAt inp (i + 1))) (blockAt inp i)) ∧
        cv = if inp.length = 0 then s.cv else blockAt inp (inp.length / 16 - 1)) ∧
    (s.keyValid = false → exec (.cbcd inp) s = .next (failed s 4)) ∧
    (s.keyValid = true → s.ivValid = false → exec (.cbcd inp) s = .next (failed s 5)) ∧
    (s.keyValid = true → s.ivValid = true → inp.length % 16 ≠ 0 → exec (.cbcd inp) s = .next (failed s 3))

/-- Rule R180: STAT, frame `09 00 00 00`. With no payload it answers the status word, its two low bytes first and then two
zero bytes, and writes nothing; it needs no key and no IV; with a payload it raises E_LEN. -/
def Obligations.StatAnswersTheStatusWord : Prop :=
  ∀ (inp : List Byte) (s : State),
    encode (.stat []) = [0x09, 0x00, 0x00, 0x00] ∧
    exec (.stat []) s = .next { s with rsp := s.rsp ++
      [0x00, 0x04, 0x00, 0x00, (statusWord s).extractLsb' 0 8, (statusWord s).extractLsb' 8 8, 0x00, 0x00] } ∧
    (inp.length ≠ 0 → exec (.stat inp) s = .next (failed s 3))

/-- Rule R29: the fields of the status word, and the reserved bits, which read as 0. -/
def Obligations.StatusFieldsStandWhereTheSpecPutsThem : Prop :=
  ∀ s : State,
    (statusWord s).getLsbD 0 = s.keyValid ∧ (statusWord s).getLsbD 1 = s.ivValid ∧
      (statusWord s).extractLsb' 2 3 = s.k ∧ (statusWord s).extractLsb' 5 2 = 0 ∧ (statusWord s).getLsbD 7 = s.err ∧
      (statusWord s).extractLsb' 8 3 = s.lastErr ∧ (statusWord s).extractLsb' 11 21 = 0

/-! The cipher. -/

/-- Rule R80: `gfmul` is the product modulo the polynomial, for every polynomial of degree 8. It is commutative, has 1
as its unit and 0 as its zero, and distributes over exclusive or; 2, the polynomial x, shifts left and reduces; and a
factor x may be taken out of a product. (These laws leave one function only.) -/
def Obligations.GfmulIsTheProductModuloThePolynomial : Prop :=
  ∀ (a b c : Byte) (p : BitVec 9), p.getLsbD 8 = true →
    gfmul a b p = gfmul b a p ∧ gfmul a 1 p = a ∧ gfmul a 0 p = 0 ∧
      gfmul a (b ^^^ c) p = gfmul a b p ^^^ gfmul a c p ∧
      gfmul a 2 p = (if a.getLsbD 7 then (a <<< 1) ^^^ p.setWidth 8 else a <<< 1) ∧
      gfmul (gfmul a 2 p) b p = gfmul (gfmul a b p) 2 p

/-- Rules R86, R190 and R191 (the spec derives them from R83 to R85): the constructed q-tables are the listed ones,
entry by entry, and permutations. -/
def Obligations.QTablesAreTheListedPermutations : Prop :=
  (∀ x : Byte, qAt .q0 x = q0Listing.getD x.toNat 0 ∧ qAt .q1 x = q1Listing.getD x.toNat 0) ∧
    (∀ n : QName, Function.Bijective (qAt n))

/-- Rules R192 to R195 (the spec derives them from R94): the constructed m-tables are the listed ones, entry by entry. -/
def Obligations.MTablesAreTheListedOnes : Prop :=
  ∀ (j : Fin 4) (b : Byte), (mListing j).length = 256 ∧ mAt j b = (mListing j).getD b.toNat 0

/-- Rule R95: the shift forms of the two multipliers are equal to the products. -/
def Obligations.ShiftMultipliersAreTheProducts : Prop :=
  ∀ v : Byte, m5B v = gfmul 0x5B v polyMds ∧ mEF v = gfmul 0xEF v polyMds

/-- Rule R91: the shift register computes the RS product, for all words. -/
def Obligations.ShiftRegisterIsTheRsProduct : Prop :=
  ∀ w0 w1 : Word, rsRem w0 w1 = rsMul w0 w1

/-- Rule R96 (the spec derives it from R88, R92 and R94): the table form of h, for every word and every list of words. -/
def Obligations.HIsTheXorOfFourMTableEntries : Prop :=
  ∀ (x : Word) (l : List Word), h x l =
    mAt 0 (hLane 0 l (byteN x 0)) ^^^ mAt 1 (hLane 1 l (byteN x 1)) ^^^ mAt 2 (hLane 2 l (byteN x 2)) ^^^
      mAt 3 (hLane 3 l (byteN x 3))

/-- Rules R93 and R135 (the spec derives the table form from R115 and R96; log entry 7): the g of the datapath, which
reads only `MK`, is h over the reversed S-box keys, in every state with a scheduled key; and g of a word rotated by 8
reads the tables one byte over. -/
def Obligations.DatapathGIsHOverReversedSboxKeys : Prop :=
  ∀ (s : State) (key : List Byte) (x : Word), Scheduled key s → s.k.toNat ≤ 4 →
    gTab s.mkTab x = h x (s.sKey.toList.take s.k.toNat).reverse ∧
      gTab s.mkTab (rol32 x 8) = s.mkTab[0][(byteN x 3).toFin] ^^^ s.mkTab[1][(byteN x 0).toFin] ^^^
        s.mkTab[2][(byteN x 1).toFin] ^^^ s.mkTab[3][(byteN x 2).toFin]

/-- Rule R139 (the spec derives it from R131, R137 and R138): `ENC` and `DEC` are inverse to each other on all blocks,
for every scheduled key (here: for all key words and tables, which includes every key). -/
def Obligations.EncAndDecAreInverse : Prop :=
  ∀ (lk : Vector Word 40) (mk : Vector (Vector Word 256) 4) (b : Block),
    decBlock lk mk (encBlock lk mk b) = b ∧ encBlock lk mk (decBlock lk mk b) = b

/-- Rule R138 (the spec derives it from R132 and R133): one decryption round undoes one encryption round, and
decryption's cycle form is `DEC`. -/
def Obligations.DecryptionRoundUndoesEncryptionRound : Prop :=
  ∀ (lk : Vector Word 40) (mk : Vector (Vector Word 256) 4),
    (∀ (r : Fin 16) (q : Quad), decRound lk mk r (encRound lk mk r q) = q) ∧
      ∀ b : Block, decBlockCycles lk mk b = decBlock lk mk b

/-- Rule R134 (the spec derives the equality from R131 to R133): the cycle form of encryption, 8 cycles of two rounds,
is `ENC`. -/
def Obligations.EightCyclesAreSixteenRounds : Prop :=
  ∀ (lk : Vector Word 40) (mk : Vector (Vector Word 256) 4) (b : Block), encBlockCycles lk mk b = encBlock lk mk b

/-- `95_test_vectors.md` section 2, KA1 and KA3: the published known answers for the zero 128-bit key and the 256-bit
key. -/
def Obligations.KnownAnswersAreReproduced : Prop :=
  (encBlock (subkeys (List.replicate 16 0)) (mkTables (sboxKeys (List.replicate 16 0))) (Vector.replicate 16 0)).toList =
      [0x9F, 0x58, 0x9F, 0x5C, 0xF6, 0x12, 0x2C, 0x32, 0xB6, 0xBF, 0xEC, 0x2F, 0x2A, 0xE8, 0xC3, 0x5A] ∧
    (let key : List Byte := [0x01, 0x23, 0x45, 0x67, 0x89, 0xAB, 0xCD, 0xEF, 0xFE, 0xDC, 0xBA, 0x98, 0x76, 0x54, 0x32, 0x10,
        0x00, 0x11, 0x22, 0x33, 0x44, 0x55, 0x66, 0x77, 0x88, 0x99, 0xAA, 0xBB, 0xCC, 0xDD, 0xEE, 0xFF]
     (encBlock (subkeys key) (mkTables (sboxKeys key)) (Vector.replicate 16 0)).toList =
      [0x37, 0x52, 0x7B, 0xE0, 0x05, 0x23, 0x34, 0xB8, 0x9F, 0x0C, 0xFC, 0xCA, 0xE8, 0x7C, 0xFA, 0x20])

/-! The modes. -/

/-- Rule R141 (the spec derives it from R130 and R150): ENCB is ECBE on one block, and DECB is ECBD. -/
def Obligations.SingleBlockCommandsAreOneBlockEcb : Prop :=
  ∀ (inp : List Byte) (s : State), inp.length = 16 →
    exec (.encb inp) s = exec (.ecbe inp) s ∧ exec (.decb inp) s = exec (.ecbd inp) s

/-- Rule R152, items 2 and 3 (the spec derives them from R150, R151 and R139): ECB concatenates, and ECBE and ECBD undo
each other under one key, for all buffers. -/
def Obligations.EcbConcatenatesAndRoundTrips : Prop :=
  ∀ (x y : List Byte) (s : State), s.keyValid = true → x.length % 16 = 0 → y.length % 16 = 0 →
    (∃ ox oy, exec (.ecbe x) s = .next { s with rsp := s.rsp ++ headerBytes 0x00 x.length ++ ox } ∧
      exec (.ecbe y) s = .next { s with rsp := s.rsp ++ headerBytes 0x00 y.length ++ oy } ∧
      exec (.ecbe (x ++ y)) s = .next { s with rsp := s.rsp ++ headerBytes 0x00 (x ++ y).length ++ (ox ++ oy) } ∧
      exec (.ecbd ox) s = .next { s with rsp := s.rsp ++ headerBytes 0x00 x.length ++ x }) ∧
    (∃ ox oy, exec (.ecbd x) s = .next { s with rsp := s.rsp ++ headerBytes 0x00 x.length ++ ox } ∧
      exec (.ecbd y) s = .next { s with rsp := s.rsp ++ headerBytes 0x00 y.length ++ oy } ∧
      exec (.ecbd (x ++ y)) s = .next { s with rsp := s.rsp ++ headerBytes 0x00 (x ++ y).length ++ (ox ++ oy) } ∧
      exec (.ecbe ox) s = .next { s with rsp := s.rsp ++ headerBytes 0x00 x.length ++ x })

/-- Rule R163 (the spec derives it from R161 and R162): a CBC stream may be cut at any block boundary. Two commands
answer, together, what one command answers, and leave the same chaining value; in both directions. -/
def Obligations.CbcStreamsMayBeCutAtBlockBoundaries : Prop :=
  ∀ (x y : List Byte) (s : State), s.keyValid = true → s.ivValid = true → x.length % 16 = 0 → y.length % 16 = 0 →
    (∃ ox oy t, exec (.cbce x) s = .next t ∧ t.rsp = s.rsp ++ headerBytes 0x00 x.length ++ ox ∧
      ∃ cv, exec (.cbce y) t = .next { t with cv := cv, rsp := t.rsp ++ headerBytes 0x00 y.length ++ oy } ∧
        exec (.cbce (x ++ y)) s =
          .next { s with cv := cv, rsp := s.rsp ++ headerBytes 0x00 (x ++ y).length ++ (ox ++ oy) }) ∧
    (∃ ox oy t, exec (.cbcd x) s = .next t ∧ t.rsp = s.rsp ++ headerBytes 0x00 x.length ++ ox ∧
      ∃ cv, exec (.cbcd y) t = .next { t with cv := cv, rsp := t.rsp ++ headerBytes 0x00 y.length ++ oy } ∧
        exec (.cbcd (x ++ y)) s =
          .next { s with cv := cv, rsp := s.rsp ++ headerBytes 0x00 (x ++ y).length ++ (ox ++ oy) })

/-- Rule R167 (the spec derives it from R161, R162 and R139): with the same IV sent again, CBCD gives back what CBCE
took and CBCE gives back what CBCD took, for every scheduled key, IV and buffer. -/
def Obligations.CbcRoundTripsUnderOneIv : Prop :=
  ∀ (iv x : List Byte) (s : State), s.keyValid = true → iv.length = 16 → x.length % 16 = 0 →
    (∃ a b c d y, exec (.cbci iv) s = .next a ∧ exec (.cbce x) a = .next b ∧
      b.rsp = a.rsp ++ headerBytes 0x00 x.length ++ y ∧ exec (.cbci iv) b = .next c ∧ exec (.cbcd y) c = .next d ∧
      d.rsp = c.rsp ++ headerBytes 0x00 x.length ++ x) ∧
    (∃ a b c d y, exec (.cbci iv) s = .next a ∧ exec (.cbcd x) a = .next b ∧
      b.rsp = a.rsp ++ headerBytes 0x00 x.length ++ y ∧ exec (.cbci iv) b = .next c ∧ exec (.cbce y) c = .next d ∧
      d.rsp = c.rsp ++ headerBytes 0x00 x.length ++ x)

/-- Rule R166 (the spec derives it from R162 and R139): error propagation. Two ciphertexts of n blocks that differ in
block j only, by D ≠ 0, decrypt to plaintexts that differ in block j, differ by exactly D in block j+1, and agree
everywhere else; and the chaining values left differ, by D, just when j is the last block. -/
def Obligations.CbcErrorReachesTwoBlocksOnly : Prop :=
  ∀ (x y : List Byte) (j : Nat) (d : Block) (s : State), s.keyValid = true → s.ivValid = true → x.length % 16 = 0 →
    y.length = x.length → j < x.length / 16 → d ≠ Vector.replicate 16 0 →
    blockAt y j = xorBlock (blockAt x j) d → (∀ i, i < x.length / 16 → i ≠ j → blockAt y i = blockAt x i) →
    ∃ ox oy cx cy, exec (.cbcd x) s = .next { s with cv := cx, rsp := s.rsp ++ headerBytes 0x00 x.length ++ ox } ∧
      exec (.cbcd y) s = .next { s with cv := cy, rsp := s.rsp ++ headerBytes 0x00 x.length ++ oy } ∧
      blockAt oy j ≠ blockAt ox j ∧
      (j + 1 < x.length / 16 → blockAt oy (j + 1) = xorBlock (blockAt ox (j + 1)) d) ∧
      (∀ i, i < x.length / 16 → i ≠ j → i ≠ j + 1 → blockAt oy i = blockAt ox i) ∧
      cy = if j + 1 = x.length / 16 then xorBlock cx d else cx

/-- Rule R168, first sentence (the spec derives it from R161): after CBCI of 16 zero bytes, CBCE of one block answers
what ENCB answers. -/
def Obligations.CbcOfOneBlockUnderZeroIvIsEcb : Prop :=
  ∀ (b : List Byte) (s : State), s.keyValid = true → b.length = 16 →
    ∃ t u out, exec (.cbci (List.replicate 16 0)) s = .next t ∧ exec (.cbce b) t = .next u ∧ u.rsp = t.rsp ++ out ∧
      exec (.encb b) s = .next { s with rsp := s.rsp ++ out }

/-- Rules R116 and R233 (the second is derived from the first): a successful SCHED, even of the key that is already
scheduled, closes the CBC stream: every CBCE and CBCD after it answers E_NOIV, until a CBCI opens a stream again. -/
def Obligations.RekeyingClosesTheCbcStream : Prop :=
  ∀ (key x iv : List Byte) (s t : State), key.length = 16 ∨ key.length = 24 ∨ key.length = 32 →
    exec (.sched key) s = .next t →
    exec (.cbce x) t = .next (failed t 5) ∧ exec (.cbcd x) t = .next (failed t 5) ∧
      (iv.length = 16 → ∃ u, exec (.cbci iv) t = .next u ∧ u.ivValid = true)

/-! The whole machine. -/

/-- Rule R20 (and R35): the writers. Only SCHED changes the scheduled cipher; only CBCI, CBCE and CBCD change `CV`, and
only CBCI and SCHED change `IV_VALID`, the one setting it and the other clearing it; no command touches the command stream
or the reset request. -/
def Obligations.OnlyTheNamedWritersWrite : Prop :=
  ∀ (i : Instr) (s t : State), exec i s = .next t →
    ((∀ key, i ≠ .sched key) →
      t.keyValid = s.keyValid ∧ t.k = s.k ∧ t.sKey = s.sKey ∧ t.lKey = s.lKey ∧ t.mkTab = s.mkTab) ∧
    (((∀ x, i ≠ .cbci x) ∧ (∀ x, i ≠ .cbce x) ∧ ∀ x, i ≠ .cbcd x) → t.cv = s.cv) ∧
    ((∀ x, i ≠ .cbci x) → t.ivValid = true → s.ivValid = true) ∧
    ((∀ key, i ≠ .sched key) → s.ivValid = true → t.ivValid = true) ∧
    (s.keyValid = true → t.keyValid = true) ∧ t.cmd = s.cmd ∧ t.rst = s.rst

/-- Rule R38 (the spec derives it from R21, R22, R27, R28 and R116) at reset. -/
def Obligations.InvariantHoldsAtReset : Prop := Inv State.reset

/-- Rule R38 (derived in the spec, with the values that R22 and R28 allow): every step keeps the invariant, from every
state that has it. -/
def Obligations.EveryStepKeepsTheInvariant : Prop :=
  ∀ s t : State, Inv s → step s = .next t → Inv t

/-- Rule R38 in its own words (derived in the spec): the invariant holds in every state that TFCORE can reach from
reset, whatever the host sends, takes and resets between the steps. -/
def Obligations.InvariantHoldsInEveryReachableState : Prop :=
  ∀ s : State, Reachable s → Inv s

/-- Rule R37 (U4, U5, U6): no response and no readable state ever depends on what is unreadable. Two states that differ
only there take steps with the same outcome, to states that again differ at most there. So no statement rests on the
values that log entry 1 chooses. -/
def Obligations.UnreadableStateIsNeverRead : Prop :=
  ∀ s t : State, Agree s t → SameOutcome (step s) (step t)

end
end

