-- ==== Sys2Proof/Laws/Bits.lean ====
section
/-! SUPPORT. The operators of `00_scope.md` rules R8 to R10: bytes of words, words of bytes, rotations by one, and blocks. -/

namespace Sys2Proof

@[simp] theorem tabulate_getElem {α : Type} {n : Nat} (f : Fin n → α) (i : Nat) (hi : i < n) :
    (tabulate f)[i] = f ⟨i, hi⟩ := by
  simp [tabulate]

@[simp] theorem tabulate_getFin {α : Type} {n : Nat} (f : Fin n → α) (i : Fin n) : (tabulate f)[i] = f i := by
  simp [tabulate]

theorem byteN_getLsbD (a : Word) (n i : Nat) : (byteN a n).getLsbD i = (decide (i < 8) && a.getLsbD (8 * n + i)) := by
  simp [byteN]

theorem le32_getLsbD (b0 b1 b2 b3 : Byte) (i : Nat) :
    (le32 b0 b1 b2 b3).getLsbD i =
      if i < 8 then b0.getLsbD i else if i < 16 then b1.getLsbD (i - 8) else if i < 24 then b2.getLsbD (i - 16)
      else if i < 32 then b3.getLsbD (i - 24) else false := by
  simp only [le32, BitVec.getLsbD_or, BitVec.getLsbD_shiftLeft, BitVec.getLsbD_setWidth]
  split
  · simp [show i < 16 by omega, show i < 24 by omega, show i < 32 by omega, *]
  · split
    · simp [show i < 32 by omega, show i < 24 by omega, show i - 8 < 32 by omega, BitVec.getLsbD_of_ge b0 i (by omega), *]
    · split
      · simp [show i < 32 by omega, show i - 8 < 32 by omega, show i - 16 < 32 by omega,
          BitVec.getLsbD_of_ge b0 i (by omega), BitVec.getLsbD_of_ge b1 (i - 8) (by omega), *]
      · split
        · simp [show i - 8 < 32 by omega, show i - 16 < 32 by omega, show i - 24 < 32 by omega,
            BitVec.getLsbD_of_ge b0 i (by omega), BitVec.getLsbD_of_ge b1 (i - 8) (by omega),
            BitVec.getLsbD_of_ge b2 (i - 16) (by omega), *]
        · simp [*]

/-- Rule R8: `byte_n(LE32(b0, b1, b2, b3)) = bn`. -/
@[simp] theorem byteN_le32_zero (b0 b1 b2 b3 : Byte) : byteN (le32 b0 b1 b2 b3) 0 = b0 := by
  apply BitVec.eq_of_getLsbD_eq
  intro i hi
  rw [byteN_getLsbD, le32_getLsbD]
  simp [hi]

@[simp] theorem byteN_le32_one (b0 b1 b2 b3 : Byte) : byteN (le32 b0 b1 b2 b3) 1 = b1 := by
  apply BitVec.eq_of_getLsbD_eq
  intro i hi
  rw [byteN_getLsbD, le32_getLsbD]
  simp only [hi, show ¬ 8 * 1 + i < 8 by omega, show 8 * 1 + i < 16 by omega, show 8 * 1 + i - 8 = i by omega, decide_true, Bool.true_and, if_true, if_false]

@[simp] theorem byteN_le32_two (b0 b1 b2 b3 : Byte) : byteN (le32 b0 b1 b2 b3) 2 = b2 := by
  apply BitVec.eq_of_getLsbD_eq
  intro i hi
  rw [byteN_getLsbD, le32_getLsbD]
  simp only [hi, show ¬ 8 * 2 + i < 8 by omega, show ¬ 8 * 2 + i < 16 by omega, show 8 * 2 + i < 24 by omega, show 8 * 2 + i - 16 = i by omega, decide_true, Bool.true_and, if_true, if_false]

@[simp] theorem byteN_le32_three (b0 b1 b2 b3 : Byte) : byteN (le32 b0 b1 b2 b3) 3 = b3 := by
  apply BitVec.eq_of_getLsbD_eq
  intro i hi
  rw [byteN_getLsbD, le32_getLsbD]
  simp only [hi, show ¬ 8 * 3 + i < 8 by omega, show ¬ 8 * 3 + i < 16 by omega, show ¬ 8 * 3 + i < 24 by omega, show 8 * 3 + i < 32 by omega, show 8 * 3 + i - 24 = i by omega, decide_true, Bool.true_and, if_true, if_false]

/-- Rule R10: `bytes` and `words` are inverse on one word. -/
@[simp] theorem le32_byteN (w : Word) : le32 (byteN w 0) (byteN w 1) (byteN w 2) (byteN w 3) = w := by
  apply BitVec.eq_of_getLsbD_eq
  intro i hi
  simp only [le32_getLsbD, byteN_getLsbD]
  split
  · simp [*]
  · split
    · simp [show i - 8 < 8 by omega, show 8 * 1 + (i - 8) = i by omega]
    · split
      · simp [show i - 16 < 8 by omega, show 8 * 2 + (i - 16) = i by omega]
      · simp [hi, show i - 24 < 8 by omega, show 8 * 3 + (i - 24) = i by omega]

theorem Quad.ext {p q : Quad} (h0 : p.r0 = q.r0) (h1 : p.r1 = q.r1) (h2 : p.r2 = q.r2) (h3 : p.r3 = q.r3) : p = q := by
  cases p; cases q; simp_all

/-- Rule R44: the words of a block that was made of four words. -/
@[simp] theorem blockWords_quadBytes (q : Quad) : blockWords (quadBytes q) = q := by
  apply Quad.ext <;> simp [blockWords, quadBytes]

/-- Rule R44: the block of the words of a block. -/
@[simp] theorem quadBytes_blockWords (b : Block) : quadBytes (blockWords b) = b := by
  apply Vector.ext
  intro i hi
  have : i = 0 ∨ i = 1 ∨ i = 2 ∨ i = 3 ∨ i = 4 ∨ i = 5 ∨ i = 6 ∨ i = 7 ∨ i = 8 ∨ i = 9 ∨ i = 10 ∨ i = 11 ∨ i = 12 ∨
      i = 13 ∨ i = 14 ∨ i = 15 := by omega
  rcases this with h | h | h | h | h | h | h | h | h | h | h | h | h | h | h | h <;> subst h <;>
    simp [blockWords, quadBytes]

theorem rol32_one_getLsbD (w : Word) (i : Nat) :
    (rol32 w 1).getLsbD i = if i = 0 then w.getLsbD 31 else (decide (i < 32) && w.getLsbD (i - 1)) := by
  simp only [rol32, BitVec.getLsbD_or, BitVec.getLsbD_shiftLeft, BitVec.getLsbD_ushiftRight]
  by_cases h0 : i = 0
  · subst h0; simp
  · simp [h0, show ¬ i < 1 by omega, BitVec.getLsbD_of_ge w (31 + i) (by omega)]

theorem ror32_one_getLsbD (w : Word) (i : Nat) :
    (ror32 w 1).getLsbD i = if i = 31 then w.getLsbD 0 else (decide (i < 32) && w.getLsbD (i + 1)) := by
  simp only [ror32, BitVec.getLsbD_or, BitVec.getLsbD_shiftLeft, BitVec.getLsbD_ushiftRight]
  by_cases h31 : i = 31
  · subst h31; simp
  · by_cases h : i < 32
    · simp [h, h31, show i < 31 by omega, Nat.add_comm 1 i]
    · simp [h, h31, BitVec.getLsbD_of_ge w (1 + i) (by omega)]

/-- The two one-bit rotations undo each other (used by rule R138). -/
@[simp] theorem rol32_ror32_one (w : Word) : rol32 (ror32 w 1) 1 = w := by
  apply BitVec.eq_of_getLsbD_eq
  intro i hi
  rw [rol32_one_getLsbD, ror32_one_getLsbD, ror32_one_getLsbD]
  by_cases h0 : i = 0
  · simp [h0]
  · simp [h0, hi, show ¬ i - 1 = 31 by omega, show i - 1 < 32 by omega, show i - 1 + 1 = i by omega]

@[simp] theorem ror32_rol32_one (w : Word) : ror32 (rol32 w 1) 1 = w := by
  apply BitVec.eq_of_getLsbD_eq
  intro i hi
  rw [ror32_one_getLsbD, rol32_one_getLsbD, rol32_one_getLsbD]
  by_cases h31 : i = 31
  · simp [h31]
  · simp [h31, hi, show i + 1 < 32 by omega]

/-- Rule R10: the exclusive or of two blocks, byte by byte. -/
@[simp] theorem xorBlock_getElem (s t : Block) (i : Nat) (hi : i < 16) : (xorBlock s t)[i] = s[i] ^^^ t[i] := by
  simp [xorBlock]

/-- A block that is exclusive-ored twice with the same chaining value is itself. -/
@[simp] theorem xorBlock_cancel (s t : Block) : xorBlock (xorBlock s t) t = s := by
  apply Vector.ext
  intro i hi
  simp

end Sys2Proof
end

