-- ==== Sys2Proof/Laws/Frames.lean ====
section
/-! SUPPORT. Frames on the streams (`30_encoding.md` rules R60 to R64): their length, and what taking one frame from a stream
answers. -/

namespace Sys2Proof

/-- Rules R60 and R64: a frame has 4 + LEN bytes. -/
@[simp] theorem frame_length (low : Byte) (payload : List Byte) : (frame low payload).length = 4 + payload.length := by
  simp [frame, wordBytes]; omega

@[simp] theorem frame_ne_nil (low : Byte) (payload : List Byte) : frame low payload ≠ [] := by
  simp [frame, wordBytes]

/-- The LEN of three header bytes fits 24 bits. -/
theorem frameLen_lt (b1 b2 b3 : Byte) : frameLen b1 b2 b3 < 2 ^ 24 := by
  have h1 := b1.isLt
  have h2 := b2.isLt
  have h3 := b3.isLt
  unfold frameLen
  omega

/-- All that taking a frame from a stream can answer: it is there whole, header first, or it is not. -/
theorem splitFrame_some {bs inp rest : List Byte} {low : Byte} (h : splitFrame bs = some (low, inp, rest)) :
    ∃ b1 b2 b3, bs = low :: b1 :: b2 :: b3 :: (inp ++ rest) ∧ inp.length = frameLen b1 b2 b3 := by
  unfold splitFrame at h
  split at h
  · rename_i b0 b1 b2 b3 tl
    split at h
    · cases h
    · simp only [Option.some.injEq, Prod.mk.injEq] at h
      obtain ⟨rfl, rfl, rfl⟩ := h
      refine ⟨b1, b2, b3, by simp, ?_⟩
      simp
      omega
  · cases h

/-- A whole frame at the front of a stream is taken whatever follows it. -/
theorem splitFrame_append {bs inp rest : List Byte} {low : Byte} (more : List Byte)
    (h : splitFrame bs = some (low, inp, rest)) : splitFrame (bs ++ more) = some (low, inp, rest ++ more) := by
  obtain ⟨b1, b2, b3, rfl, hlen⟩ := splitFrame_some h
  simp [splitFrame, ← hlen]

/-- The payload that a frame carries is shorter than 2^24 bytes. -/
theorem splitFrame_payload_length {bs inp rest : List Byte} {low : Byte} (h : splitFrame bs = some (low, inp, rest)) :
    inp.length ≤ Config.maxLen := by
  obtain ⟨b1, b2, b3, _, hlen⟩ := splitFrame_some h
  have := frameLen_lt b1 b2 b3
  simp [Config.maxLen]
  omega

/-- Rule R62: an assigned opcode and the command it stands for. -/
theorem commandOf_some {opc : Byte} {inp : List Byte} {i : Instr} (h : commandOf opc inp = some i) :
    opcodeOf i = opc ∧ i.payload = inp := by
  have ho : ∀ n : Nat, n < 256 → opc.toNat = n → opc = BitVec.ofNat 8 n := by
    intro n hn he
    apply BitVec.eq_of_toNat_eq
    simp [he, Nat.mod_eq_of_lt hn]
  unfold commandOf at h
  split at h <;> cases h <;> exact ⟨(ho _ (by decide) (by assumption)).symm, rfl⟩

/-- Rule R62: every command has the opcode that reads back as it. -/
@[simp] theorem commandOf_opcodeOf (i : Instr) : commandOf (opcodeOf i) i.payload = some i := by
  cases i <;> rfl

/-- Rule R66: the opcodes that stand for no command. -/
theorem commandOf_eq_none_iff (opc : Byte) (inp : List Byte) :
    commandOf opc inp = none ↔ opc.toNat = 0 ∨ 10 ≤ opc.toNat := by
  unfold commandOf
  split <;> simp_all
  omega

end Sys2Proof
end

