-- ==== Sys2Proof/Laws/Operands.lean ====
section
/-! SUPPORT. Payloads as blocks (`20_memory.md` rule R50) and the two CBC loops (`44_cbc.md` rules R161, R162). -/

namespace Sys2Proof.Machine

@[simp] theorem blockOf_getElem (bs : List Byte) (i : Nat) (hi : i < 16) : (blockOf bs)[i] = bs.getD i 0 := by
  simp [blockOf]

/-- A 16-byte payload and the block it is. -/
theorem blockOf_toList {bs : List Byte} (h : bs.length = 16) : (blockOf bs).toList = bs := by
  apply List.ext_getElem
  · simp [h]
  · intro i h1 h2
    simp [List.getD_eq_getElem?_getD, List.getElem?_eq_getElem h2]

@[simp] theorem blockOf_toList_append (b : Block) (bs : List Byte) : blockOf (b.toList ++ bs) = b := by
  apply Vector.ext
  intro i hi
  simp [List.getD_eq_getElem?_getD, List.getElem?_append, hi]

@[simp] theorem blocksOf_length (n : Nat) (bs : List Byte) : (blocksOf n bs).length = n := by
  induction n generalizing bs with
  | zero => rfl
  | succ n ih => simp [blocksOf, ih]

@[simp] theorem joinBlocks_nil : joinBlocks [] = [] := rfl

@[simp] theorem joinBlocks_cons (b : Block) (bs : List Block) : joinBlocks (b :: bs) = b.toList ++ joinBlocks bs := rfl

@[simp] theorem joinBlocks_append (xs ys : List Block) : joinBlocks (xs ++ ys) = joinBlocks xs ++ joinBlocks ys := by
  simp [joinBlocks]

/-- Rule R50: n blocks are 16 n bytes. -/
@[simp] theorem joinBlocks_length (bs : List Block) : (joinBlocks bs).length = 16 * bs.length := by
  induction bs with
  | nil => rfl
  | cons b bs ih => simp [ih]; omega

/-- Rule R50: the blocks of the bytes of blocks are those blocks, whatever follows. -/
@[simp] theorem blocksOf_joinBlocks (bs : List Block) (more : List Byte) :
    blocksOf bs.length (joinBlocks bs ++ more) = bs := by
  induction bs with
  | nil => rfl
  | cons b bs ih =>
    simp [blocksOf, List.append_assoc, ih]

/-- Rule R50: the bytes of the blocks of whole blocks are those bytes. -/
theorem joinBlocks_blocksOf (n : Nat) {bs : List Byte} (h : bs.length = 16 * n) : joinBlocks (blocksOf n bs) = bs := by
  induction n generalizing bs with
  | zero => simp [blocksOf, List.length_eq_zero_iff.mp (by omega : bs.length = 0)]
  | succ n ih =>
    have hd : blockOf bs = blockOf (bs.take 16) := by
      apply Vector.ext
      intro i hi
      simp [List.getD_eq_getElem?_getD, hi]
    simp only [blocksOf, joinBlocks_cons, hd]
    rw [blockOf_toList (by simp; omega), ih (by simp [Config.blockBytes]; omega), List.take_append_drop]

/-- Block i of a payload is its bytes 16i to 16i+15. -/
theorem blocksOf_getElem (n : Nat) (bs : List Byte) (i : Nat) (hi : i < (blocksOf n bs).length) :
    (blocksOf n bs)[i] = blockOf (bs.drop (16 * i)) := by
  induction n generalizing bs i with
  | zero => simp [blocksOf] at hi
  | succ n ih =>
    cases i with
    | zero => simp [blocksOf]
    | succ i =>
      simp only [blocksOf, List.getElem_cons_succ]
      rw [ih]
      simp [List.drop_drop, Nat.mul_add, Nat.add_comm]

/-- Rule R163's ground: blocks of two payloads one after the other, the first whole blocks. -/
theorem blocksOf_append (m n : Nat) {x : List Byte} (y : List Byte) (h : x.length = 16 * m) :
    blocksOf (m + n) (x ++ y) = blocksOf m x ++ blocksOf n y := by
  induction m generalizing x with
  | zero => simp [blocksOf, List.length_eq_zero_iff.mp (by omega : x.length = 0)]
  | succ m ih =>
    rw [show m + 1 + n = (m + n) + 1 by omega]
    have hb : blockOf (x ++ y) = blockOf x := by
      apply Vector.ext
      intro i hi
      simp [List.getD_eq_getElem?_getD, List.getElem?_append, show i < x.length by omega]
    have hd : (x ++ y).drop 16 = x.drop 16 ++ y := by
      rw [List.drop_append_of_le_length (by omega)]
    simp [blocksOf, hb, hd, ih (x := x.drop 16) (by simp; omega)]

@[simp] theorem cbcEncrypt_length (enc : Block → Block) (cv : Block) (ps : List Block) :
    (cbcEncrypt enc cv ps).1.length = ps.length := by
  induction ps generalizing cv with
  | nil => rfl
  | cons p ps ih => simp [cbcEncrypt, ih]

@[simp] theorem cbcDecrypt_length (dec : Block → Block) (cv : Block) (ys : List Block) :
    (cbcDecrypt dec cv ys).1.length = ys.length := by
  induction ys generalizing cv with
  | nil => rfl
  | cons y ys ih => simp [cbcDecrypt, ih]

/-- The chaining value passes from one run of blocks to the next. -/
theorem cbcEncrypt_append (enc : Block → Block) (cv : Block) (xs ys : List Block) :
    cbcEncrypt enc cv (xs ++ ys) =
      ((cbcEncrypt enc cv xs).1 ++ (cbcEncrypt enc (cbcEncrypt enc cv xs).2 ys).1,
        (cbcEncrypt enc (cbcEncrypt enc cv xs).2 ys).2) := by
  induction xs generalizing cv with
  | nil => rfl
  | cons x xs ih => simp [cbcEncrypt, ih]

theorem cbcDecrypt_append (dec : Block → Block) (cv : Block) (xs ys : List Block) :
    cbcDecrypt dec cv (xs ++ ys) =
      ((cbcDecrypt dec cv xs).1 ++ (cbcDecrypt dec (cbcDecrypt dec cv xs).2 ys).1,
        (cbcDecrypt dec (cbcDecrypt dec cv xs).2 ys).2) := by
  induction xs generalizing cv with
  | nil => rfl
  | cons x xs ih => simp [cbcDecrypt, ih]

/-- What `cbcDecrypt` leaves in the chaining value: the last block consumed. -/
theorem cbcDecrypt_cv (dec : Block → Block) (cv : Block) (ys : List Block) :
    (cbcDecrypt dec cv ys).2 = ys.getLastD cv := by
  induction ys generalizing cv with
  | nil => rfl
  | cons y ys ih => cases ys <;> simp_all [cbcDecrypt, List.getLast?_eq_some_getLast]

/-- What `cbcEncrypt` leaves in the chaining value: the last block produced. -/
theorem cbcEncrypt_cv (enc : Block → Block) (cv : Block) (ps : List Block) :
    (cbcEncrypt enc cv ps).2 = (cbcEncrypt enc cv ps).1.getLastD cv := by
  induction ps generalizing cv with
  | nil => rfl
  | cons p ps ih =>
    simp only [cbcEncrypt, ih]
    cases h : (cbcEncrypt enc (enc (xorBlock p cv)) ps).1 <;> simp [List.getLast?_eq_some_getLast]

end Sys2Proof.Machine
end

