-- ==== Sys2Proof/Laws/PerInstr.lean ====
section
/-! SUPPORT. One lemma per command about its frame as syntax (`30_encoding.md` rules R60, R62). -/

namespace Sys2Proof.Laws.FrameShape

/-- A command's frame has four header bytes before its payload, and its opcode reads back as the command itself, which no
other payload or opcode does. -/
def Statement (i : Instr) : Prop :=
  (encode i).length = 4 + i.payload.length ∧ (encode i).drop 4 = i.payload ∧
    commandOf (opcodeOf i) i.payload = some i ∧ 1 ≤ (opcodeOf i).toNat ∧ (opcodeOf i).toNat ≤ 9

/-- The shape that every constructor's lemma uses. -/
theorem of_opcode {i : Instr} (h : commandOf (opcodeOf i) i.payload = some i)
    (hr : 1 ≤ (opcodeOf i).toNat ∧ (opcodeOf i).toNat ≤ 9) : Statement i := by
  refine ⟨?_, ?_, h, hr⟩
  · simp [encode, frame, wordBytes]; omega
  · simp [encode, frame, wordBytes]

theorem sched (key : List Byte) : Statement (.sched key) := of_opcode rfl (by simp [opcodeOf])

theorem encb (inp : List Byte) : Statement (.encb inp) := of_opcode rfl (by simp [opcodeOf])

theorem decb (inp : List Byte) : Statement (.decb inp) := of_opcode rfl (by simp [opcodeOf])

theorem ecbe (inp : List Byte) : Statement (.ecbe inp) := of_opcode rfl (by simp [opcodeOf])

theorem ecbd (inp : List Byte) : Statement (.ecbd inp) := of_opcode rfl (by simp [opcodeOf])

theorem cbci (iv : List Byte) : Statement (.cbci iv) := of_opcode rfl (by simp [opcodeOf])

theorem cbce (inp : List Byte) : Statement (.cbce inp) := of_opcode rfl (by simp [opcodeOf])

theorem cbcd (inp : List Byte) : Statement (.cbcd inp) := of_opcode rfl (by simp [opcodeOf])

theorem stat (inp : List Byte) : Statement (.stat inp) := of_opcode rfl (by simp [opcodeOf])

end Sys2Proof.Laws.FrameShape
end

