-- ==== Sys2Proof/Laws/State.lean ====
section
/-! SUPPORT. One lemma per field per update of the state: what each named operation leaves in each field. -/

namespace Sys2Proof.Machine

variable (s : State)

@[simp] theorem State.takeFrame_keyValid (rest : List Byte) : (s.takeFrame rest).keyValid = s.keyValid := rfl
@[simp] theorem State.takeFrame_k (rest : List Byte) : (s.takeFrame rest).k = s.k := rfl
@[simp] theorem State.takeFrame_sKey (rest : List Byte) : (s.takeFrame rest).sKey = s.sKey := rfl
@[simp] theorem State.takeFrame_lKey (rest : List Byte) : (s.takeFrame rest).lKey = s.lKey := rfl
@[simp] theorem State.takeFrame_mkTab (rest : List Byte) : (s.takeFrame rest).mkTab = s.mkTab := rfl
@[simp] theorem State.takeFrame_ivValid (rest : List Byte) : (s.takeFrame rest).ivValid = s.ivValid := rfl
@[simp] theorem State.takeFrame_cv (rest : List Byte) : (s.takeFrame rest).cv = s.cv := rfl
@[simp] theorem State.takeFrame_err (rest : List Byte) : (s.takeFrame rest).err = s.err := rfl
@[simp] theorem State.takeFrame_lastErr (rest : List Byte) : (s.takeFrame rest).lastErr = s.lastErr := rfl
@[simp] theorem State.takeFrame_rst (rest : List Byte) : (s.takeFrame rest).rst = s.rst := rfl
@[simp] theorem State.takeFrame_cmd (rest : List Byte) : (s.takeFrame rest).cmd = rest := rfl
@[simp] theorem State.takeFrame_rsp (rest : List Byte) : (s.takeFrame rest).rsp = s.rsp := rfl

@[simp] theorem State.respond_keyValid (st : Byte) (out : List Byte) : (s.respond st out).keyValid = s.keyValid := rfl
@[simp] theorem State.respond_k (st : Byte) (out : List Byte) : (s.respond st out).k = s.k := rfl
@[simp] theorem State.respond_sKey (st : Byte) (out : List Byte) : (s.respond st out).sKey = s.sKey := rfl
@[simp] theorem State.respond_lKey (st : Byte) (out : List Byte) : (s.respond st out).lKey = s.lKey := rfl
@[simp] theorem State.respond_mkTab (st : Byte) (out : List Byte) : (s.respond st out).mkTab = s.mkTab := rfl
@[simp] theorem State.respond_ivValid (st : Byte) (out : List Byte) : (s.respond st out).ivValid = s.ivValid := rfl
@[simp] theorem State.respond_cv (st : Byte) (out : List Byte) : (s.respond st out).cv = s.cv := rfl
@[simp] theorem State.respond_err (st : Byte) (out : List Byte) : (s.respond st out).err = s.err := rfl
@[simp] theorem State.respond_lastErr (st : Byte) (out : List Byte) : (s.respond st out).lastErr = s.lastErr := rfl
@[simp] theorem State.respond_rst (st : Byte) (out : List Byte) : (s.respond st out).rst = s.rst := rfl
@[simp] theorem State.respond_cmd (st : Byte) (out : List Byte) : (s.respond st out).cmd = s.cmd := rfl
@[simp] theorem State.respond_rsp (st : Byte) (out : List Byte) : (s.respond st out).rsp = s.rsp ++ frame st out := rfl

@[simp] theorem State.recordError_keyValid (e : ErrorCode) : (s.recordError e).keyValid = s.keyValid := rfl
@[simp] theorem State.recordError_k (e : ErrorCode) : (s.recordError e).k = s.k := rfl
@[simp] theorem State.recordError_sKey (e : ErrorCode) : (s.recordError e).sKey = s.sKey := rfl
@[simp] theorem State.recordError_lKey (e : ErrorCode) : (s.recordError e).lKey = s.lKey := rfl
@[simp] theorem State.recordError_mkTab (e : ErrorCode) : (s.recordError e).mkTab = s.mkTab := rfl
@[simp] theorem State.recordError_ivValid (e : ErrorCode) : (s.recordError e).ivValid = s.ivValid := rfl
@[simp] theorem State.recordError_cv (e : ErrorCode) : (s.recordError e).cv = s.cv := rfl
@[simp] theorem State.recordError_err (e : ErrorCode) : (s.recordError e).err = true := rfl
@[simp] theorem State.recordError_lastErr (e : ErrorCode) : (s.recordError e).lastErr = e.code := rfl
@[simp] theorem State.recordError_rst (e : ErrorCode) : (s.recordError e).rst = s.rst := rfl
@[simp] theorem State.recordError_cmd (e : ErrorCode) : (s.recordError e).cmd = s.cmd := rfl
@[simp] theorem State.recordError_rsp (e : ErrorCode) : (s.recordError e).rsp = s.rsp := rfl

@[simp] theorem State.commitKey_keyValid (key : List Byte) : (s.commitKey key).keyValid = true := rfl
@[simp] theorem State.commitKey_k (key : List Byte) : (s.commitKey key).k = BitVec.ofNat 3 (keyDepth key) := rfl
@[simp] theorem State.commitKey_sKey (key : List Byte) : (s.commitKey key).sKey = tabulate fun i => if i.val < keyDepth key then sboxKey key i.val else s.sKey[i] := rfl
@[simp] theorem State.commitKey_lKey (key : List Byte) : (s.commitKey key).lKey = subkeys key := rfl
@[simp] theorem State.commitKey_mkTab (key : List Byte) : (s.commitKey key).mkTab = mkTables (sboxKeys key) := rfl
@[simp] theorem State.commitKey_ivValid (key : List Byte) : (s.commitKey key).ivValid = false := rfl
@[simp] theorem State.commitKey_cv (key : List Byte) : (s.commitKey key).cv = s.cv := rfl
@[simp] theorem State.commitKey_err (key : List Byte) : (s.commitKey key).err = s.err := rfl
@[simp] theorem State.commitKey_lastErr (key : List Byte) : (s.commitKey key).lastErr = s.lastErr := rfl
@[simp] theorem State.commitKey_rst (key : List Byte) : (s.commitKey key).rst = s.rst := rfl
@[simp] theorem State.commitKey_cmd (key : List Byte) : (s.commitKey key).cmd = s.cmd := rfl
@[simp] theorem State.commitKey_rsp (key : List Byte) : (s.commitKey key).rsp = s.rsp := rfl

@[simp] theorem State.loadIv_keyValid (iv : Block) : (s.loadIv iv).keyValid = s.keyValid := rfl
@[simp] theorem State.loadIv_k (iv : Block) : (s.loadIv iv).k = s.k := rfl
@[simp] theorem State.loadIv_sKey (iv : Block) : (s.loadIv iv).sKey = s.sKey := rfl
@[simp] theorem State.loadIv_lKey (iv : Block) : (s.loadIv iv).lKey = s.lKey := rfl
@[simp] theorem State.loadIv_mkTab (iv : Block) : (s.loadIv iv).mkTab = s.mkTab := rfl
@[simp] theorem State.loadIv_ivValid (iv : Block) : (s.loadIv iv).ivValid = true := rfl
@[simp] theorem State.loadIv_cv (iv : Block) : (s.loadIv iv).cv = iv := rfl
@[simp] theorem State.loadIv_err (iv : Block) : (s.loadIv iv).err = s.err := rfl
@[simp] theorem State.loadIv_lastErr (iv : Block) : (s.loadIv iv).lastErr = s.lastErr := rfl
@[simp] theorem State.loadIv_rst (iv : Block) : (s.loadIv iv).rst = s.rst := rfl
@[simp] theorem State.loadIv_cmd (iv : Block) : (s.loadIv iv).cmd = s.cmd := rfl
@[simp] theorem State.loadIv_rsp (iv : Block) : (s.loadIv iv).rsp = s.rsp := rfl

@[simp] theorem State.setCv_keyValid (cv : Block) : (s.setCv cv).keyValid = s.keyValid := rfl
@[simp] theorem State.setCv_k (cv : Block) : (s.setCv cv).k = s.k := rfl
@[simp] theorem State.setCv_sKey (cv : Block) : (s.setCv cv).sKey = s.sKey := rfl
@[simp] theorem State.setCv_lKey (cv : Block) : (s.setCv cv).lKey = s.lKey := rfl
@[simp] theorem State.setCv_mkTab (cv : Block) : (s.setCv cv).mkTab = s.mkTab := rfl
@[simp] theorem State.setCv_ivValid (cv : Block) : (s.setCv cv).ivValid = s.ivValid := rfl
@[simp] theorem State.setCv_cv (cv : Block) : (s.setCv cv).cv = cv := rfl
@[simp] theorem State.setCv_err (cv : Block) : (s.setCv cv).err = s.err := rfl
@[simp] theorem State.setCv_lastErr (cv : Block) : (s.setCv cv).lastErr = s.lastErr := rfl
@[simp] theorem State.setCv_rst (cv : Block) : (s.setCv cv).rst = s.rst := rfl
@[simp] theorem State.setCv_cmd (cv : Block) : (s.setCv cv).cmd = s.cmd := rfl
@[simp] theorem State.setCv_rsp (cv : Block) : (s.setCv cv).rsp = s.rsp := rfl

@[simp] theorem State.hostSend_keyValid (bs : List Byte) : (s.hostSend bs).keyValid = s.keyValid := rfl
@[simp] theorem State.hostSend_k (bs : List Byte) : (s.hostSend bs).k = s.k := rfl
@[simp] theorem State.hostSend_sKey (bs : List Byte) : (s.hostSend bs).sKey = s.sKey := rfl
@[simp] theorem State.hostSend_lKey (bs : List Byte) : (s.hostSend bs).lKey = s.lKey := rfl
@[simp] theorem State.hostSend_mkTab (bs : List Byte) : (s.hostSend bs).mkTab = s.mkTab := rfl
@[simp] theorem State.hostSend_ivValid (bs : List Byte) : (s.hostSend bs).ivValid = s.ivValid := rfl
@[simp] theorem State.hostSend_cv (bs : List Byte) : (s.hostSend bs).cv = s.cv := rfl
@[simp] theorem State.hostSend_err (bs : List Byte) : (s.hostSend bs).err = s.err := rfl
@[simp] theorem State.hostSend_lastErr (bs : List Byte) : (s.hostSend bs).lastErr = s.lastErr := rfl
@[simp] theorem State.hostSend_rst (bs : List Byte) : (s.hostSend bs).rst = s.rst := rfl
@[simp] theorem State.hostSend_cmd (bs : List Byte) : (s.hostSend bs).cmd = s.cmd ++ bs := rfl
@[simp] theorem State.hostSend_rsp (bs : List Byte) : (s.hostSend bs).rsp = s.rsp := rfl

@[simp] theorem State.hostTake_keyValid (n : Nat) : (s.hostTake n).keyValid = s.keyValid := rfl
@[simp] theorem State.hostTake_k (n : Nat) : (s.hostTake n).k = s.k := rfl
@[simp] theorem State.hostTake_sKey (n : Nat) : (s.hostTake n).sKey = s.sKey := rfl
@[simp] theorem State.hostTake_lKey (n : Nat) : (s.hostTake n).lKey = s.lKey := rfl
@[simp] theorem State.hostTake_mkTab (n : Nat) : (s.hostTake n).mkTab = s.mkTab := rfl
@[simp] theorem State.hostTake_ivValid (n : Nat) : (s.hostTake n).ivValid = s.ivValid := rfl
@[simp] theorem State.hostTake_cv (n : Nat) : (s.hostTake n).cv = s.cv := rfl
@[simp] theorem State.hostTake_err (n : Nat) : (s.hostTake n).err = s.err := rfl
@[simp] theorem State.hostTake_lastErr (n : Nat) : (s.hostTake n).lastErr = s.lastErr := rfl
@[simp] theorem State.hostTake_rst (n : Nat) : (s.hostTake n).rst = s.rst := rfl
@[simp] theorem State.hostTake_cmd (n : Nat) : (s.hostTake n).cmd = s.cmd := rfl
@[simp] theorem State.hostTake_rsp (n : Nat) : (s.hostTake n).rsp = s.rsp.drop n := rfl

@[simp] theorem State.hostReset_keyValid : s.hostReset.keyValid = s.keyValid := rfl
@[simp] theorem State.hostReset_k : s.hostReset.k = s.k := rfl
@[simp] theorem State.hostReset_sKey : s.hostReset.sKey = s.sKey := rfl
@[simp] theorem State.hostReset_lKey : s.hostReset.lKey = s.lKey := rfl
@[simp] theorem State.hostReset_mkTab : s.hostReset.mkTab = s.mkTab := rfl
@[simp] theorem State.hostReset_ivValid : s.hostReset.ivValid = s.ivValid := rfl
@[simp] theorem State.hostReset_cv : s.hostReset.cv = s.cv := rfl
@[simp] theorem State.hostReset_err : s.hostReset.err = s.err := rfl
@[simp] theorem State.hostReset_lastErr : s.hostReset.lastErr = s.lastErr := rfl
@[simp] theorem State.hostReset_rst : s.hostReset.rst = true := rfl
@[simp] theorem State.hostReset_cmd : s.hostReset.cmd = s.cmd := rfl
@[simp] theorem State.hostReset_rsp : s.hostReset.rsp = s.rsp := rfl

@[simp] theorem State.withFetchWord_keyValid (nbits w : Nat) : (s.withFetchWord nbits w).keyValid = s.keyValid := rfl
@[simp] theorem State.withFetchWord_k (nbits w : Nat) : (s.withFetchWord nbits w).k = s.k := rfl
@[simp] theorem State.withFetchWord_sKey (nbits w : Nat) : (s.withFetchWord nbits w).sKey = s.sKey := rfl
@[simp] theorem State.withFetchWord_lKey (nbits w : Nat) : (s.withFetchWord nbits w).lKey = s.lKey := rfl
@[simp] theorem State.withFetchWord_mkTab (nbits w : Nat) : (s.withFetchWord nbits w).mkTab = s.mkTab := rfl
@[simp] theorem State.withFetchWord_ivValid (nbits w : Nat) : (s.withFetchWord nbits w).ivValid = s.ivValid := rfl
@[simp] theorem State.withFetchWord_cv (nbits w : Nat) : (s.withFetchWord nbits w).cv = s.cv := rfl
@[simp] theorem State.withFetchWord_err (nbits w : Nat) : (s.withFetchWord nbits w).err = s.err := rfl
@[simp] theorem State.withFetchWord_lastErr (nbits w : Nat) : (s.withFetchWord nbits w).lastErr = s.lastErr := rfl
@[simp] theorem State.withFetchWord_rst (nbits w : Nat) : (s.withFetchWord nbits w).rst = false := rfl
@[simp] theorem State.withFetchWord_cmd (nbits w : Nat) : (s.withFetchWord nbits w).cmd = tableFrame nbits w ++ s.cmd := rfl
@[simp] theorem State.withFetchWord_rsp (nbits w : Nat) : (s.withFetchWord nbits w).rsp = s.rsp := rfl

@[simp] theorem State.reset_keyValid : State.reset.keyValid = false := rfl
@[simp] theorem State.reset_k : State.reset.k = 0 := rfl
@[simp] theorem State.reset_ivValid : State.reset.ivValid = false := rfl
@[simp] theorem State.reset_err : State.reset.err = false := rfl
@[simp] theorem State.reset_lastErr : State.reset.lastErr = 0 := rfl
@[simp] theorem State.reset_rst : State.reset.rst = false := rfl
@[simp] theorem State.reset_cmd : State.reset.cmd = [] := rfl
@[simp] theorem State.reset_rsp : State.reset.rsp = [] := rfl

end Sys2Proof.Machine
end

