-- ==== Sys2Proof/Laws/Step.lean ====
section
/-! SUPPORT. Everything a meaning and a step can do, said once. A meaning either raises an error or answers OK after at most
one write of the state; a step is a reset, a meaning, a skipped frame, or no step. -/

namespace Sys2Proof.Machine

/-- Everything SCHED can do. -/
theorem execSched_cases (key : List Byte) (s : State) :
    (isKey key = true ∧ execSched key s = ok [] (s.commitKey key)) ∨
      (isKey key = false ∧ execSched key s = raiseError .keyLen s) := by
  unfold execSched; split <;> simp_all

/-- Everything ENCB can do. -/
theorem execEncb_cases (inp : List Byte) (s : State) :
    (s.keyValid = false ∧ execEncb inp s = raiseError .noKey s) ∨
      (s.keyValid = true ∧ isBlock inp = false ∧ execEncb inp s = raiseError .len s) ∨
      (s.keyValid = true ∧ isBlock inp = true ∧ execEncb inp s = ok (s.enc (blockOf inp)).toList s) := by
  unfold execEncb; split <;> (try split) <;> simp_all

/-- Everything DECB can do. -/
theorem execDecb_cases (inp : List Byte) (s : State) :
    (s.keyValid = false ∧ execDecb inp s = raiseError .noKey s) ∨
      (s.keyValid = true ∧ isBlock inp = false ∧ execDecb inp s = raiseError .len s) ∨
      (s.keyValid = true ∧ isBlock inp = true ∧ execDecb inp s = ok (s.dec (blockOf inp)).toList s) := by
  unfold execDecb; split <;> (try split) <;> simp_all

/-- Everything ECBE can do. -/
theorem execEcbe_cases (inp : List Byte) (s : State) :
    (s.keyValid = false ∧ execEcbe inp s = raiseError .noKey s) ∨
      (s.keyValid = true ∧ isBuffer inp = false ∧ execEcbe inp s = raiseError .len s) ∨
      (s.keyValid = true ∧ isBuffer inp = true ∧
        execEcbe inp s = ok (joinBlocks ((payloadBlocks inp).map s.enc)) s) := by
  unfold execEcbe; split <;> (try split) <;> simp_all

/-- Everything ECBD can do. -/
theorem execEcbd_cases (inp : List Byte) (s : State) :
    (s.keyValid = false ∧ execEcbd inp s = raiseError .noKey s) ∨
      (s.keyValid = true ∧ isBuffer inp = false ∧ execEcbd inp s = raiseError .len s) ∨
      (s.keyValid = true ∧ isBuffer inp = true ∧
        execEcbd inp s = ok (joinBlocks ((payloadBlocks inp).map s.dec)) s) := by
  unfold execEcbd; split <;> (try split) <;> simp_all

/-- Everything CBCI can do. -/
theorem execCbci_cases (iv : List Byte) (s : State) :
    (s.keyValid = false ∧ execCbci iv s = raiseError .noKey s) ∨
      (s.keyValid = true ∧ isBlock iv = false ∧ execCbci iv s = raiseError .len s) ∨
      (s.keyValid = true ∧ isBlock iv = true ∧ execCbci iv s = ok [] (s.loadIv (blockOf iv))) := by
  unfold execCbci; split <;> (try split) <;> simp_all

/-- Everything CBCE can do. -/
theorem execCbce_cases (inp : List Byte) (s : State) :
    (s.keyValid = false ∧ execCbce inp s = raiseError .noKey s) ∨
      (s.keyValid = true ∧ s.ivValid = false ∧ execCbce inp s = raiseError .noIv s) ∨
      (s.keyValid = true ∧ s.ivValid = true ∧ isBuffer inp = false ∧ execCbce inp s = raiseError .len s) ∨
      (s.keyValid = true ∧ s.ivValid = true ∧ isBuffer inp = true ∧
        execCbce inp s = ok (joinBlocks (cbcEncrypt s.enc s.cv (payloadBlocks inp)).1)
          (s.setCv (cbcEncrypt s.enc s.cv (payloadBlocks inp)).2)) := by
  unfold execCbce; split <;> (try split) <;> (try split) <;> simp_all

/-- Everything CBCD can do. -/
theorem execCbcd_cases (inp : List Byte) (s : State) :
    (s.keyValid = false ∧ execCbcd inp s = raiseError .noKey s) ∨
      (s.keyValid = true ∧ s.ivValid = false ∧ execCbcd inp s = raiseError .noIv s) ∨
      (s.keyValid = true ∧ s.ivValid = true ∧ isBuffer inp = false ∧ execCbcd inp s = raiseError .len s) ∨
      (s.keyValid = true ∧ s.ivValid = true ∧ isBuffer inp = true ∧
        execCbcd inp s = ok (joinBlocks (cbcDecrypt s.dec s.cv (payloadBlocks inp)).1)
          (s.setCv (cbcDecrypt s.dec s.cv (payloadBlocks inp)).2)) := by
  unfold execCbcd; split <;> (try split) <;> (try split) <;> simp_all

/-- Everything STAT can do. -/
theorem execStat_cases (inp : List Byte) (s : State) :
    (isEmptyPayload inp = true ∧ execStat inp s = ok (wordBytes (statusWord s)) s) ∨
      (isEmptyPayload inp = false ∧ execStat inp s = raiseError .len s) := by
  unfold execStat; split <;> simp_all

/-- What a command that answers OK writes before it answers: nothing, or one of three updates, each with the checks that
let it happen. -/
inductive Writes (s : State) : Instr → State → Prop where
  | nothing (i : Instr) : Writes s i s
  | key {key : List Byte} : isKey key = true → Writes s (.sched key) (s.commitKey key)
  | iv {iv : List Byte} : s.keyValid = true → isBlock iv = true → Writes s (.cbci iv) (s.loadIv (blockOf iv))
  | cbce {inp : List Byte} (cv : Block) : s.keyValid = true → s.ivValid = true → Writes s (.cbce inp) (s.setCv cv)
  | cbcd {inp : List Byte} (cv : Block) : s.keyValid = true → s.ivValid = true → Writes s (.cbcd inp) (s.setCv cv)

/-- Everything a command can do (rule R200): raise one error, or answer OK after one of the writes above. -/
theorem exec_cases (i : Instr) (s : State) :
    (∃ e, exec i s = raiseError e s) ∨ ∃ u out, Writes s i u ∧ exec i s = ok out u := by
  cases i with
  | sched key =>
    rcases execSched_cases key s with ⟨hk, h⟩ | ⟨-, h⟩
    · exact .inr ⟨_, _, .key hk, h⟩
    · exact .inl ⟨_, h⟩
  | encb inp =>
    rcases execEncb_cases inp s with ⟨-, h⟩ | ⟨-, -, h⟩ | ⟨-, -, h⟩
    · exact .inl ⟨_, h⟩
    · exact .inl ⟨_, h⟩
    · exact .inr ⟨_, _, .nothing _, h⟩
  | decb inp =>
    rcases execDecb_cases inp s with ⟨-, h⟩ | ⟨-, -, h⟩ | ⟨-, -, h⟩
    · exact .inl ⟨_, h⟩
    · exact .inl ⟨_, h⟩
    · exact .inr ⟨_, _, .nothing _, h⟩
  | ecbe inp =>
    rcases execEcbe_cases inp s with ⟨-, h⟩ | ⟨-, -, h⟩ | ⟨-, -, h⟩
    · exact .inl ⟨_, h⟩
    · exact .inl ⟨_, h⟩
    · exact .inr ⟨_, _, .nothing _, h⟩
  | ecbd inp =>
    rcases execEcbd_cases inp s with ⟨-, h⟩ | ⟨-, -, h⟩ | ⟨-, -, h⟩
    · exact .inl ⟨_, h⟩
    · exact .inl ⟨_, h⟩
    · exact .inr ⟨_, _, .nothing _, h⟩
  | cbci iv =>
    rcases execCbci_cases iv s with ⟨-, h⟩ | ⟨-, -, h⟩ | ⟨hk, hb, h⟩
    · exact .inl ⟨_, h⟩
    · exact .inl ⟨_, h⟩
    · exact .inr ⟨_, _, .iv hk hb, h⟩
  | cbce inp =>
    rcases execCbce_cases inp s with ⟨-, h⟩ | ⟨-, -, h⟩ | ⟨-, -, -, h⟩ | ⟨hk, hi, -, h⟩
    · exact .inl ⟨_, h⟩
    · exact .inl ⟨_, h⟩
    · exact .inl ⟨_, h⟩
    · exact .inr ⟨_, _, .cbce _ hk hi, h⟩
  | cbcd inp =>
    rcases execCbcd_cases inp s with ⟨-, h⟩ | ⟨-, -, h⟩ | ⟨-, -, -, h⟩ | ⟨hk, hi, -, h⟩
    · exact .inl ⟨_, h⟩
    · exact .inl ⟨_, h⟩
    · exact .inl ⟨_, h⟩
    · exact .inr ⟨_, _, .cbcd _ hk hi, h⟩
  | stat inp =>
    rcases execStat_cases inp s with ⟨-, h⟩ | ⟨-, h⟩
    · exact .inr ⟨_, _, .nothing _, h⟩
    · exact .inl ⟨_, h⟩

/-- Everything the decoder can answer: a whole frame of a command, a whole frame with a reserved opcode, or less than a
frame. -/
theorem decode_cases (bs : List Byte) :
    (∃ i opc rest, decode bs = .command i rest ∧ splitFrame bs = some (opc, i.payload, rest) ∧ opcodeOf i = opc) ∨
      (∃ opc inp rest, decode bs = .reserved opc rest ∧ splitFrame bs = some (opc, inp, rest) ∧
        (opc.toNat = 0 ∨ 10 ≤ opc.toNat)) ∨
      (decode bs = .incomplete ∧ splitFrame bs = none) := by
  unfold decode
  cases hs : splitFrame bs with
  | none => exact .inr (.inr ⟨rfl, rfl⟩)
  | some p =>
    obtain ⟨opc, inp, rest⟩ := p
    cases hc : commandOf opc inp with
    | none => exact .inr (.inl ⟨opc, inp, rest, by simp [hc], rfl, (commandOf_eq_none_iff opc inp).mp hc⟩)
    | some i =>
      obtain ⟨ho, hp⟩ := commandOf_some hc
      exact .inl ⟨i, opc, rest, by simp [hc], by rw [hp], ho⟩

/-- Everything a step can do. -/
theorem step_cases (s : State) :
    (s.rst = true ∧ step s = .next State.reset) ∨
      (s.rst = false ∧ ∃ i rest, decode s.cmd = .command i rest ∧ step s = exec i (s.takeFrame rest)) ∨
      (s.rst = false ∧ ∃ opc rest, decode s.cmd = .reserved opc rest ∧ step s = raiseError .badOp (s.takeFrame rest)) ∨
      (s.rst = false ∧ decode s.cmd = .incomplete ∧ ∃ f, step s = .fault f) := by
  unfold step
  cases hr : s.rst with
  | true => exact .inl ⟨rfl, rfl⟩
  | false =>
    simp only [Bool.false_eq_true, if_false]
    cases hd : decode s.cmd with
    | command i rest => exact .inr (.inl ⟨trivial, i, rest, rfl, rfl⟩)
    | reserved opc rest => exact .inr (.inr (.inl ⟨trivial, opc, rest, rfl, rfl⟩))
    | incomplete =>
      refine .inr (.inr (.inr ⟨trivial, rfl, ?_⟩))
      simp only [waitStep]
      split <;> exact ⟨_, rfl⟩

end Sys2Proof.Machine
end

