-- ==== Sys2Proof/Tests/Slice0.lean ====
section
/-! SUPPORT. Small tests, each against a value that stands in spec/ (the source is named), and the witnesses: states and
operands that meet the hypotheses of the statements. -/

namespace Sys2Proof.Tests

open Sys2Proof.Machine Sys2Proof.Safety

/-! Well-formedness: the one check, refused by an ill-formed term of each kind of payload. -/

/-- Well-formedness looks at the payload's length alone. -/
theorem wf_of_length {i : Instr} {n : Nat} (h : i.payload.length = n) : i.wf = decide (n ≤ 16777215) := by
  rw [Instr.wf, h]

theorem test_wf_refuses_an_overlong_key : Instr.wf (.sched (List.replicate 16777216 0)) = false :=
  wf_of_length (i := .sched _) (List.length_replicate (n := 16777216))

theorem test_wf_refuses_an_overlong_buffer : Instr.wf (.cbce (List.replicate 16777216 0)) = false :=
  wf_of_length (i := .cbce _) (List.length_replicate (n := 16777216))

theorem test_wf_accepts_the_longest_payload : Instr.wf (.ecbe (List.replicate 16777215 0)) = true :=
  wf_of_length (i := .ecbe _) (List.length_replicate (n := 16777215))

theorem test_wf_accepts_no_payload : Instr.wf (.stat []) = true := by decide

/-! Encoding: the frames of rules R62, R68 and R70. -/

theorem test_frame_sched : decode ([0x01, 0x10, 0x00, 0x00] ++ List.replicate 16 0) = .command (.sched (List.replicate 16 0)) [] := by
  decide

theorem test_frame_encb : decode [0x02, 0x10, 0, 0, 0, 1, 2, 3, 4, 5, 6, 7, 8, 9, 0x0A, 0x0B, 0x0C, 0x0D, 0x0E, 0x0F] =
    .command (.encb [0, 1, 2, 3, 4, 5, 6, 7, 8, 9, 0x0A, 0x0B, 0x0C, 0x0D, 0x0E, 0x0F]) [] := by decide

theorem test_frame_decb : decode ([0x03, 0x10, 0, 0] ++ List.replicate 17 7) = .command (.decb (List.replicate 16 7)) [7] := by decide

theorem test_frame_ecbe : decode ([0x04, 0x40, 0, 0] ++ List.replicate 64 1) = .command (.ecbe (List.replicate 64 1)) [] := by
  decide +kernel

theorem test_frame_ecbd : decode [0x05, 0x01, 0, 0, 0xEE] = .command (.ecbd [0xEE]) [] := by decide

theorem test_frame_cbci : decode [0x06, 0x02, 0, 0, 0x49, 0x6E, 0x69] = .command (.cbci [0x49, 0x6E]) [0x69] := by decide

theorem test_frame_cbce_4096 (data : List Byte) (h : data.length = 4096) : encode (.cbce data) = [0x07, 0x00, 0x10, 0x00] ++ data := by
  have hw : wordBytes (frameHeader 0x07 4096) = [0x07, 0x00, 0x10, 0x00] := by decide
  simp only [encode, frame, opcodeOf, Instr.payload, h, hw]

theorem test_frame_cbcd : decode [0x08, 0x00, 0x00, 0x00, 0x07, 0x00, 0x00, 0x00] = .command (.cbcd []) [0x07, 0x00, 0x00, 0x00] := by
  decide

theorem test_frame_stat : encode (.stat []) = [0x09, 0x00, 0x00, 0x00] := by decide

theorem test_frame_length_is_not_scaled : frameLen 0x01 0x02 0x03 = 0x030201 := by decide

theorem test_frame_reserved : decode [0x55, 0x03, 0, 0, 0xAA, 0xBB, 0xCC, 0x09] = .reserved 0x55 [0x09] := by decide

theorem test_frame_of_zeros_is_reserved : decode [0, 0, 0, 0] = .reserved 0 [] := by decide

theorem test_frame_without_its_payload : decode [0x02, 0x10, 0x00, 0x00, 0x00] = .incomplete := by decide

theorem test_response_frames : frame 0x00 [] = [0, 0, 0, 0] ∧ frame 0x04 [] = [4, 0, 0, 0] ∧
    frame 0x00 (List.replicate 16 9) = [0, 0x10, 0, 0] ++ List.replicate 16 9 := by decide

theorem test_table_words : decodeTableWord 32 0x00000001 = some (.sched []) ∧ decodeTableWord 8 0x02 = some (.encb []) ∧
    decodeTableWord 32 0x00000003 = some (.decb []) ∧ decodeTableWord 40 0x5A00000104 = some (.ecbe [0x5A]) ∧
    decodeTableWord 32 0x00000205 = some (.ecbd [0, 0]) ∧ decodeTableWord 32 0x00000006 = some (.cbci []) ∧
    decodeTableWord 32 0x00000007 = some (.cbce []) ∧ decodeTableWord 32 0x00000008 = some (.cbcd []) ∧
    decodeTableWord 32 0x00000009 = some (.stat []) ∧ decodeTableWord 32 0x0000000A = none := by decide

/-! The text of commands and responses: the examples of rules R68 and R69. -/

theorem test_text_string : assembleLine "CBCI \"Now\"".toList = some [.cbci [0x4E, 0x6F, 0x77]] := by decide

theorem test_text_repeat : assembleLine "SCHED 00*16".toList = some [.sched (List.replicate 16 0)] := by decide

theorem test_text_run : assembleLine "ENCB 00 01 .. 0F".toList =
    some [.encb [0, 1, 2, 3, 4, 5, 6, 7, 8, 9, 0x0A, 0x0B, 0x0C, 0x0D, 0x0E, 0x0F]] := by decide

theorem test_text_comment : assembleLine "# reserved: .byte 55 03 00 00 AA BB CC".toList = some [] := by decide

/-- The values are not of spec/: this shows that log entry 9 describes the functions as they are. -/
theorem test_text_mixtures_read : assembleLine "ECBE \"ab\" 00*2 05..07\"c\"".toList =
    some [.ecbe [0x61, 0x62, 0x00, 0x00, 0x05, 0x06, 0x07, 0x63]] := by decide

/-- As the test before: the mixtures that log entry 9 lists as refused. -/
theorem test_text_mixtures_refused : assembleLine "ECBE \"a\"*2".toList = none ∧ assembleLine "ECBE \"a\" .. 63".toList = none ∧
    assembleLine "ECBE 00 .. 0F*2".toList = none ∧ assembleLine "ECBE 00 .. 02 .. 04".toList = none ∧
    assembleLine "ECBE 00*2*2".toList = none ∧ assembleLine "ECBE 02 .. 01".toList = none := by decide

theorem test_text_pseudo : assembleLine "CBC_NEW 0123, \"a,b\"".toList = some [.sched [0x01, 0x23], .cbci [0x61, 0x2C, 0x62]] := by
  decide

theorem test_text_response : responseText 0x00 [0x9F, 0x58] = some "-> OK 9F58".toList ∧
    responseText 0x04 [] = some "-> E_NOKEY".toList ∧ responseText 0x06 [] = none := by decide

/-! Primitives: the worked values of `40_primitives.md` and of `95_test_vectors.md` section 3.1. -/

theorem test_gfmul : gfmul 0x02 0x80 polyMds = 0x69 ∧ gfmul 0x02 0x80 polyRs = 0x4D ∧ gfmul 0xEF 0x02 polyMds = 0xB7 ∧
    gfmul 0x5B 0xFF polyMds = 0x2E ∧ gfmul 0xA4 0xFF polyRs = 0x6A ∧ gfmul 0x9E 0x80 polyRs = 0x62 ∧
    gfmul 0xFF 0xFF polyMds = 0x90 ∧ gfmul 0xFF 0xFF polyRs = 0xF6 := by decide

theorem test_q_tables : qAt .q0 0x00 = 0xA9 ∧ qAt .q0 0x01 = 0x67 ∧ qAt .q0 0x7F = 0xE7 ∧ qAt .q0 0xFE = 0xC1 ∧
    qAt .q1 0x00 = 0x75 ∧ qAt .q1 0x10 = 0xD6 ∧ qAt .q1 0x80 = 0x66 ∧ qAt .q1 0xFF = 0x91 := by decide

theorem test_mds_mul : mdsMul 1 0 0 0 = 0xEFEF5B01 ∧ mdsMul 0 0 0 1 = 0x5BEF015B ∧ mdsMul 1 2 3 4 = 0xB05DB05E ∧
    mdsMul 0xA9 0x75 0xA9 0x75 = 0x471E29FE := by decide +kernel

theorem test_rs_mul : rsMul 0x67452301 0xEFCDAB89 = 0xB89FF6F2 ∧ rsMul 0xBBAA9988 0xFFEEDDCC = 0x8E4447F7 ∧
    rsMul 0 0x01000000 = 0x0319E59E := by decide +kernel

theorem test_rs_rem : rsRem 0x67452301 0xEFCDAB89 = 0xB89FF6F2 ∧ rsRem 0xFFFFFFFF 0xFFFFFFFF = 0x0ACA4AB9 := by decide +kernel

theorem test_h : h 0 [0, 0] = 0x6F01A38B ∧ h 0 [0x67452301, 0x98BADCFE, 0x33221100] = 0xB590DDC0 ∧
    h 0x27272727 [0xEFCDAB89, 0x10325476, 0x77665544, 0xFFEEDDCC] = 0xC0F88354 := by decide +kernel

theorem test_h_tables : hTables 0x01020304 [0, 0] = 0x595D98E2 := by decide +kernel

theorem test_multipliers : m5B 0x03 = 0xED ∧ mEF 0x03 = 0x58 ∧ m5B 0xA9 = 0xD9 ∧ mEF 0xA9 = 0x39 := by decide

theorem test_m_tables : mAt 0 0x00 = 0xBCBC3275 ∧ mAt 1 0x01 = 0x67901717 ∧ mAt 2 0xFF = 0x139113EF ∧ mAt 3 0x01 = 0x90176790 := by
  decide +kernel

/-! The key schedule: `95_test_vectors.md` section 3.2, keys Z128 and K192, and the values of rules R113 to R115. -/

/-- The all-zero 128-bit key of KA1. -/
def zeroKey : List Byte := List.replicate 16 0

/-- The 192-bit key of KA2. -/
def key192 : List Byte :=
  [0x01, 0x23, 0x45, 0x67, 0x89, 0xAB, 0xCD, 0xEF, 0xFE, 0xDC, 0xBA, 0x98, 0x76, 0x54, 0x32, 0x10,
   0x00, 0x11, 0x22, 0x33, 0x44, 0x55, 0x66, 0x77]

/-- The 256-bit key of KA3. -/
def key256 : List Byte := key192 ++ [0x88, 0x99, 0xAA, 0xBB, 0xCC, 0xDD, 0xEE, 0xFF]

theorem test_key_words : keyWord key192 0 = 0x67452301 ∧ evenWords key192 = [0x67452301, 0x98BADCFE, 0x33221100] ∧
    oddWords key192 = [0xEFCDAB89, 0x10325476, 0x77665544] := by decide +kernel

theorem test_sbox_keys : sboxKeys key192 = [0xB89FF6F2, 0xB255BC4B, 0x45661061] := by decide +kernel

theorem test_subkeys : (subkeys zeroKey)[0] = 0x52C54DDE ∧ (subkeys zeroKey)[1] = 0x11F0626D ∧
    (subkeys zeroKey)[39] = 0x696EA672 ∧ (subkeys key192)[38] = 0x57C8DD1F ∧ (subkeys key256)[1] = 0x44D13C60 := by
  decide +kernel

theorem test_key_tables : (mkTables (sboxKeys zeroKey))[0][0] = 0x9C9C71B3 ∧ (mkTables (sboxKeys key192))[1][128] = 0xE335F0F0 ∧
    (mkTables (sboxKeys key256))[3][255] = 0x416B5441 := by decide +kernel

theorem test_g : gTab (mkTables (sboxKeys key256)) 0x01020304 = 0x3CB026EC ∧ gOf (sboxKeys key256) 0 = 0x79F80552 := by
  decide +kernel

/-! The block transform: `95_test_vectors.md` sections 2 and 4.1. -/

theorem test_first_round : encRound (subkeys zeroKey) (mkTables (sboxKeys zeroKey)) 0 ⟨0x52C54DDE, 0x11F0626D, 0x7CAC9D4A, 0x4D1B4AAA⟩ =
    ⟨0xC38DCAA4, 0x7A0A91B6, 0x52C54DDE, 0x11F0626D⟩ := by decide +kernel

theorem test_last_round_back : decRound (subkeys zeroKey) (mkTables (sboxKeys zeroKey)) 15
    ⟨0xC1708BA9, 0x9522A3CE, 0xEB27628F, 0x2C51191D⟩ = ⟨0xEB27628F, 0x2C51191D, 0xB0681C46, 0x606D0273⟩ := by decide +kernel

theorem test_known_answer_192 : (encBlock (subkeys key192) (mkTables (sboxKeys key192)) (Vector.replicate 16 0)).toList =
    [0xCF, 0xD1, 0xD2, 0xE5, 0xA9, 0xBE, 0x9C, 0xDF, 0x50, 0x1F, 0x13, 0xB8, 0x92, 0xBD, 0x22, 0x48] := by decide +kernel

/-- The ciphertext of KA1, which is the key of KA5. -/
def ka1Cipher : List Byte := [0x9F, 0x58, 0x9F, 0x5C, 0xF6, 0x12, 0x2C, 0x32, 0xB6, 0xBF, 0xEC, 0x2F, 0x2A, 0xE8, 0xC3, 0x5A]

/-- The ciphertext of KA4, which is the plaintext of KA5. -/
def ka4Cipher : List Byte := [0xD4, 0x91, 0xDB, 0x16, 0xE7, 0xB1, 0xC3, 0x9E, 0x86, 0xCB, 0x08, 0x6B, 0x78, 0x9F, 0x54, 0x19]

theorem test_known_answer_256_back : (decBlock (subkeys key256) (mkTables (sboxKeys key256))
    (blockOf [0x37, 0x52, 0x7B, 0xE0, 0x05, 0x23, 0x34, 0xB8, 0x9F, 0x0C, 0xFC, 0xCA, 0xE8, 0x7C, 0xFA, 0x20])).toList = List.replicate 16 0 := by
  decide +kernel

theorem test_known_answer_4_back_by_cycles : (decBlockCycles (subkeys zeroKey) (mkTables (sboxKeys zeroKey)) (blockOf ka4Cipher)).toList =
    ka1Cipher := by decide +kernel

theorem test_known_answer_5_by_cycles : (encBlockCycles (subkeys ka1Cipher) (mkTables (sboxKeys ka1Cipher)) (blockOf ka4Cipher)).toList =
    [0x01, 0x9F, 0x98, 0x09, 0xDE, 0x17, 0x11, 0x85, 0x8F, 0xAA, 0xC3, 0xA3, 0xBA, 0x20, 0xFB, 0xC3] := by decide +kernel

/-! The commands: `95_test_vectors.md` section 7 and the examples of rules R110, R180 and R206. -/

/-- Reset, then the zero key scheduled (the start of groups C and D). -/
def keyed : State := State.reset.commitKey zeroKey

/-- An open CBC stream with the IV `00 01 .. 0F` (group D, row 6). -/
def streaming : State := keyed.loadIv (tabulate fun i => BitVec.ofNat 8 i.val)

/-- A cipher whose key words and tables are all 0: by rules R131 to R133 every F value is then 0, a block of one repeated
byte 00 or FF only has its words rotated and exchanged, and is its own encryption and decryption. -/
def blank : State := { State.reset with keyValid := true, k := 2, ivValid := true }

/-- The response bytes of an outcome. -/
def answer : Result → List Byte
  | .next s => s.rsp
  | .fault _ => []
  | .refused _ => []

/-- One field of the next state of an outcome. -/
def after {α : Type} (f : State → α) : Result → Option α
  | .next s => some (f s)
  | .fault _ => none
  | .refused _ => none

theorem test_sched_flags : after (fun s => (s.keyValid, s.k, s.ivValid, s.err, s.rsp)) (exec (.sched key192) blank) =
    some (true, 3, false, false, [0, 0, 0, 0]) := by decide

theorem test_sched_keys : after (fun s => (s.sKey.toList, s.lKey[0])) (exec (.sched zeroKey) blank) = some ([0, 0, 0, 0], 0x52C54DDE) := by
  decide +kernel

theorem test_encb : answer (exec (.encb (List.replicate 16 0)) keyed) =
    [0x00, 0x10, 0x00, 0x00, 0x9F, 0x58, 0x9F, 0x5C, 0xF6, 0x12, 0x2C, 0x32, 0xB6, 0xBF, 0xEC, 0x2F, 0x2A, 0xE8, 0xC3, 0x5A] := by
  decide +kernel

theorem test_encb_length : answer (exec (.encb (List.replicate 32 0)) blank) = [3, 0, 0, 0] := by decide

theorem test_decb : answer (exec (.decb (List.replicate 16 0)) keyed) =
    [0x00, 0x10, 0x00, 0x00, 0x3D, 0x28, 0xB4, 0xE8, 0xA0, 0xEA, 0x1F, 0x90, 0xAB, 0x7F, 0xAE, 0xC1, 0x40, 0x54, 0xF4, 0x30] := by
  decide +kernel

theorem test_decb_no_key : answer (exec (.decb (List.replicate 16 0)) State.reset) = [4, 0, 0, 0] := by decide

theorem test_ecbe_order : answer (exec (.ecbe (List.replicate 16 0xFF ++ List.replicate 16 0)) blank) =
    [0x00, 0x20, 0x00, 0x00] ++ List.replicate 16 0xFF ++ List.replicate 16 0 := by decide +kernel

theorem test_ecbe_ragged : answer (exec (.ecbe (List.replicate 17 0)) blank) = [3, 0, 0, 0] := by decide

theorem test_ecbd_order : answer (exec (.ecbd (List.replicate 16 0 ++ List.replicate 16 0xFF)) blank) =
    [0x00, 0x20, 0x00, 0x00] ++ List.replicate 16 0 ++ List.replicate 16 0xFF := by decide +kernel

theorem test_ecbd_empty : answer (exec (.ecbd []) blank) = [0, 0, 0, 0] := by decide

theorem test_cbci : after (fun s => (s.cv.toList, s.ivValid)) (exec (.cbci [0x49, 0x6E, 0x69, 0x74, 0x69, 0x61, 0x6C, 0x69, 0x7A,
    0x61, 0x74, 0x69, 0x6F, 0x6E, 0x20, 0x56]) keyed) =
    some ([0x49, 0x6E, 0x69, 0x74, 0x69, 0x61, 0x6C, 0x69, 0x7A, 0x61, 0x74, 0x69, 0x6F, 0x6E, 0x20, 0x56], true) := by decide

theorem test_cbci_length : answer (exec (.cbci (List.replicate 15 0)) keyed) = [3, 0, 0, 0] := by decide

theorem test_cbce : after (fun s => (s.rsp, s.cv.toList)) (exec (.cbce (List.replicate 16 0)) streaming) =
    some ([0x00, 0x10, 0x00, 0x00, 0x67, 0x0F, 0xF8, 0x29, 0xD0, 0x7B, 0xAC, 0x24, 0x0E, 0xC1, 0x96, 0x16, 0x0E, 0x81, 0x45, 0x58],
      [0x67, 0x0F, 0xF8, 0x29, 0xD0, 0x7B, 0xAC, 0x24, 0x0E, 0xC1, 0x96, 0x16, 0x0E, 0x81, 0x45, 0x58]) := by decide +kernel

theorem test_cbce_check_order : answer (exec (.cbce [1, 2, 3, 4, 5]) State.reset) = [4, 0, 0, 0] ∧
    answer (exec (.cbce [1, 2, 3, 4, 5]) keyed) = [5, 0, 0, 0] ∧ answer (exec (.cbce [1, 2, 3, 4, 5]) streaming) = [3, 0, 0, 0] := by decide

theorem test_cbcd_chains_on_the_input :
    after (fun s => (s.rsp, s.cv.toList)) (exec (.cbcd (List.replicate 16 0xFF ++ List.replicate 16 0)) blank) =
      some ([0x00, 0x20, 0x00, 0x00] ++ List.replicate 32 0xFF, List.replicate 16 0) := by decide +kernel

theorem test_cbcd_empty : after (fun s => (s.rsp, s.cv.toList)) (exec (.cbcd []) streaming) =
    some ([0, 0, 0, 0], [0, 1, 2, 3, 4, 5, 6, 7, 8, 9, 10, 11, 12, 13, 14, 15]) := by decide

theorem test_stat : answer (exec (.stat []) State.reset) = [0, 4, 0, 0, 0, 0, 0, 0] ∧
    answer (exec (.stat []) { blank with ivValid := false, err := true, lastErr := 3 }) = [0, 4, 0, 0, 0x89, 3, 0, 0] ∧
    answer (exec (.stat []) { blank with k := 4, err := true, lastErr := 2 }) = [0, 4, 0, 0, 0x93, 2, 0, 0] := by decide

theorem test_stat_payload : after (fun s => (s.rsp, s.err, s.lastErr)) (exec (.stat [0]) State.reset) = some ([3, 0, 0, 0], true, 3) := by
  decide

/-! The step: `95_test_vectors.md` section 7 group E, and rules R42, R230 and R231. -/

theorem test_step_reserved : after (fun s => (s.rsp, s.cmd, s.lastErr)) (step (State.reset.hostSend [0x55, 3, 0, 0, 0xAA, 0xBB, 0xCC, 9])) =
    some ([1, 0, 0, 0], [9], 1) := by decide

theorem test_step_takes_one_frame : after (fun s => (s.rsp, s.cmd)) (step (State.reset.hostSend [9, 0, 0, 0, 9, 0])) =
    some ([0, 4, 0, 0, 0, 0, 0, 0], [9, 0]) := by decide

theorem test_step_waits : step State.reset = .fault .idle ∧ step (State.reset.hostSend [9, 0, 0]) = .fault .partialFrame := by
  constructor <;> rfl

theorem test_step_reset : after (fun s => (s.cmd, s.rsp, s.keyValid, s.rst))
    (step { blank with rst := true, cmd := [1, 0x10, 0], rsp := [0, 4] }) = some ([], [], false, false) := by decide

theorem test_fetch_word : after (fun s => (s.rsp, s.cmd)) (step ((State.reset.hostSend [7]).withFetchWord 32 0x00000209)) =
    some ([3, 0, 0, 0], [7]) := by decide

theorem test_responses_are_read_back : readResponse [0x00, 0x01, 0x00, 0x00, 0xAB, 0x04] = some (0x00, [0xAB], [0x04]) := by decide

/-! Witnesses. `witness_X` shows states and operands that meet all the hypotheses of `Obligations.X`, at the boundary values
of its clauses. -/

/-- A state whose next frame is `f`, with `rest` behind it. -/
def facing (s : State) (f rest : List Byte) : State := { s with cmd := f ++ rest }

theorem witness_DecodeOfEncodeIsTheCommand : Instr.wf (.cbcd (List.replicate 16777215 0)) = true ∧ Instr.wf (.sched []) = true :=
  ⟨wf_of_length (i := .cbcd _) (List.length_replicate (n := 16777215)), by decide⟩

theorem witness_DecodedCommandIsItsOneFrame : decode [0x07, 0x01, 0, 0, 0xAB, 0x09] = .command (.cbce [0xAB]) [0x09] := by decide

theorem witness_HeaderWordHoldsOpcodeAndLength : (0 : Nat) ≤ 16777215 ∧ (16777215 : Nat) ≤ 16777215 := by decide

theorem witness_ResponseFrameReadsBack : ([] : List Byte).length ≤ 16777215 ∧ (List.replicate 16777215 (0 : Byte)).length ≤ 16777215 :=
  ⟨by decide, by rw [List.length_replicate]⟩

theorem witness_StepExecutesTheDecodedCommand :
    (facing keyed (encode (.cbci [1])) [9]).rst = false ∧ Instr.wf (.cbci [1]) = true ∧
      (facing keyed (encode (.cbci [1])) [9]).cmd = encode (.cbci [1]) ++ [9] := by
  refine ⟨rfl, by decide, rfl⟩

theorem witness_ReservedOpcodesAnswerBadOp :
    ((0x00 : Byte).toNat = 0 ∨ 10 ≤ (0x00 : Byte).toNat) ∧ ((0x0A : Byte).toNat = 0 ∨ 10 ≤ (0x0A : Byte).toNat) ∧
      ((0xFF : Byte).toNat = 0 ∨ 10 ≤ (0xFF : Byte).toNat) ∧ [(1 : Byte)].length ≤ 16777215 ∧
      (facing keyed (frame 0x0A [1]) [2]).rst = false ∧ (facing keyed (frame 0x0A [1]) [2]).cmd = frame 0x0A [1] ++ [2] := by
  refine ⟨by decide, by decide, by decide, by decide, rfl, rfl⟩

theorem witness_PartOfAFrameHasNoStep_nothing :
    [(1 : Byte)].length ≤ 16777215 ∧ 0 < 4 + [(1 : Byte)].length ∧ keyed.rst = false ∧ keyed.cmd = (frame 0x01 [1]).take 0 := by
  refine ⟨by decide, by decide, rfl, rfl⟩

theorem witness_PartOfAFrameHasNoStep_all_but_one :
    [(1 : Byte)].length ≤ 16777215 ∧ 4 < 4 + [(1 : Byte)].length ∧ (facing keyed [1, 1, 0, 0] []).rst = false ∧
      (facing keyed [1, 1, 0, 0] []).cmd = (frame 0x01 [1]).take 4 := by
  refine ⟨by decide, by decide, rfl, by decide⟩

theorem witness_StepIsPossibleWhenAWholeFrameWaits :
    [(1 : Byte)].length ≤ 16777215 ∧ (facing keyed (frame 0x77 [1]) [2]).cmd = frame 0x77 [1] ++ [2] := ⟨by decide, rfl⟩

theorem witness_OneResponsePerFrame : (facing keyed [9, 0, 0, 0] [9]).rst = false ∧ ∃ t, step (facing keyed [9, 0, 0, 0] [9]) = .next t :=
  ⟨rfl, _, rfl⟩

theorem witness_SendingAheadChangesNothing :
    (facing keyed [9, 1, 0, 0, 7] []).rst = false ∧ ∃ t, step (facing keyed [9, 1, 0, 0, 7] []) = .next t := ⟨rfl, _, rfl⟩

theorem witness_RunIsTheFoldOverFrames : State.reset.rst = false ∧ State.reset.cmd = [] ∧
    ∀ f ∈ [((0x01 : Byte), zeroKey), (0x55, []), (0x02, zeroKey)], f.2.length ≤ 16777215 := by
  refine ⟨rfl, rfl, by decide⟩

theorem witness_ErrorEntryWritesOnlyTheRecord :
    (facing keyed (encode (.cbce [])) [9]).rst = false ∧ Instr.wf (.cbce []) = true ∧
      (facing keyed (encode (.cbce [])) [9]).cmd = encode (.cbce []) ++ [9] ∧
      Raises (.cbce []) { facing keyed (encode (.cbce [])) [9] with cmd := [9] } .noIv :=
  ⟨rfl, by decide, rfl, .noIv rfl rfl rfl⟩

theorem witness_ChecksDecideEveryAnswer_raises :
    Raises (.encb []) State.reset .noKey ∧ Raises (.cbcd []) keyed .noIv ∧ Raises (.cbce [1]) streaming .len ∧
      Raises (.sched [1]) State.reset .keyLen :=
  ⟨.noKey rfl rfl, .noIv rfl rfl rfl, .len (fun _ => rfl) (fun _ => rfl) (by simp [lenAllowed]),
    .len (fun h => nomatch h) (fun h => nomatch h) (by simp [lenAllowed])⟩

theorem witness_ChecksDecideEveryAnswer_passes :
    Passes (.cbce []) streaming ∧ Passes (.sched zeroKey) State.reset ∧ Passes (.stat []) State.reset :=
  ⟨⟨fun _ => rfl, fun _ => rfl, rfl⟩, ⟨fun h => (nomatch h), fun h => (nomatch h), .inl rfl⟩, ⟨fun h => (nomatch h), fun h => (nomatch h), rfl⟩⟩

theorem witness_SchedRefusesEveryOtherLength : ∀ n ∈ [0, 15, 17, 23, 25, 31, 33],
    (List.replicate n (0 : Byte)).length ≠ 16 ∧ (List.replicate n (0 : Byte)).length ≠ 24 ∧
      (List.replicate n (0 : Byte)).length ≠ 32 := by decide

theorem witness_FailedCbcCommandLeavesTheStream :
    (∃ x, Instr.cbce [1] = .cbci x ∨ Instr.cbce [1] = .cbce x ∨ Instr.cbce [1] = .cbcd x) ∧
      (∃ x, Instr.cbcd [] = .cbci x ∨ Instr.cbcd [] = .cbce x ∨ Instr.cbcd [] = .cbcd x) ∧
      Raises (.cbce [1]) streaming .len ∧ exec (.cbce [1]) streaming = .next (failed streaming 3) ∧
      ∃ u, exec (.cbcd []) (failed streaming 3) = .next u :=
  ⟨⟨_, .inr (.inl rfl)⟩, ⟨_, .inr (.inr rfl)⟩, .len (fun _ => rfl) (fun _ => rfl) (by simp [lenAllowed]), rfl, _, rfl⟩

theorem witness_ErrorRecordIsSticky :
    (({ blank with rst := true, err := true } : State).rst = true ∧ ∃ t, step { blank with rst := true, err := true } = .next t) ∧
      (facing (failed keyed 3) [9, 0, 0, 0] []).rst = false ∧ (∃ t, step (facing (failed keyed 3) [9, 0, 0, 0] []) = .next t) ∧
      ∃ t, step (facing (failed keyed 3) [2, 0, 0, 0] []) = .next t :=
  ⟨⟨rfl, _, rfl⟩, rfl, ⟨_, rfl⟩, _, rfl⟩

theorem witness_ErrorRecordSteersNothing : (∀ x, Instr.cbci zeroKey ≠ .stat x) ∧ ∃ t, exec (.cbci zeroKey) keyed = .next t :=
  ⟨fun _ h => (nomatch h), _, rfl⟩

theorem witness_SchedStoresTheKeySchedule : ∀ n ∈ [16, 24, 32],
    (List.replicate n (0 : Byte)).length = 16 ∨ (List.replicate n (0 : Byte)).length = 24 ∨
      (List.replicate n (0 : Byte)).length = 32 := by decide

theorem witness_SchedDependsOnTheKeyAlone :
    (key192.length = 16 ∨ key192.length = 24 ∨ key192.length = 32) ∧ (∃ t, exec (.sched key192) blank = .next t) ∧
      ∃ t, exec (.sched key192) keyed = .next t := ⟨by decide, ⟨_, rfl⟩, _, rfl⟩

theorem witness_EncbAnswersTheEncryptedBlock : (keyed.keyValid = true ∧ zeroKey.length = 16) ∧ State.reset.keyValid = false ∧
    keyed.keyValid = true ∧ (List.replicate 15 (0 : Byte)).length ≠ 16 ∧ (List.replicate 17 (0 : Byte)).length ≠ 16 := by
  refine ⟨⟨rfl, rfl⟩, rfl, rfl, by decide, by decide⟩

theorem witness_DecbAnswersTheDecryptedBlock : (keyed.keyValid = true ∧ zeroKey.length = 16) ∧ State.reset.keyValid = false ∧
    keyed.keyValid = true ∧ ([] : List Byte).length ≠ 16 ∧ (List.replicate 32 (0 : Byte)).length ≠ 16 := by
  refine ⟨⟨rfl, rfl⟩, rfl, rfl, by decide, by decide⟩

theorem witness_EcbeEncryptsBlockByBlock : (keyed.keyValid = true ∧ ([] : List Byte).length % 16 = 0 ∧ key256.length % 16 = 0) ∧
    State.reset.keyValid = false ∧ keyed.keyValid = true ∧ (List.replicate 17 (0 : Byte)).length % 16 ≠ 0 := by
  refine ⟨⟨rfl, by decide, by decide⟩, rfl, rfl, by decide⟩

theorem witness_EcbdDecryptsBlockByBlock : (keyed.keyValid = true ∧ ([] : List Byte).length % 16 = 0 ∧ key256.length % 16 = 0) ∧
    State.reset.keyValid = false ∧ keyed.keyValid = true ∧ (List.replicate 31 (0 : Byte)).length % 16 ≠ 0 := by
  refine ⟨⟨rfl, by decide, by decide⟩, rfl, rfl, by decide⟩

theorem witness_CbciLoadsTheIv : (streaming.keyValid = true ∧ zeroKey.length = 16) ∧ State.reset.keyValid = false ∧
    keyed.keyValid = true ∧ (List.replicate 15 (0 : Byte)).length ≠ 16 := by
  refine ⟨⟨rfl, rfl⟩, rfl, rfl, by decide⟩

theorem witness_CbceChainsOnTheCiphertextProduced :
    (streaming.keyValid = true ∧ streaming.ivValid = true ∧ ([] : List Byte).length % 16 = 0 ∧ key256.length % 16 = 0) ∧
      State.reset.keyValid = false ∧ (keyed.keyValid = true ∧ keyed.ivValid = false) ∧ [(1 : Byte)].length % 16 ≠ 0 := by
  refine ⟨⟨rfl, rfl, by decide, by decide⟩, rfl, ⟨rfl, rfl⟩, by decide⟩

theorem witness_CbcdChainsOnTheCiphertextConsumed :
    (streaming.keyValid = true ∧ streaming.ivValid = true ∧ ([] : List Byte).length % 16 = 0 ∧ key256.length % 16 = 0) ∧
      State.reset.keyValid = false ∧ (keyed.keyValid = true ∧ keyed.ivValid = false) ∧ key192.length % 16 ≠ 0 := by
  refine ⟨⟨rfl, rfl, by decide, by decide⟩, rfl, ⟨rfl, rfl⟩, by decide⟩

theorem witness_StatAnswersTheStatusWord : [(0 : Byte)].length ≠ 0 := by decide

theorem witness_GfmulIsTheProductModuloThePolynomial : polyMds.getLsbD 8 = true ∧ polyRs.getLsbD 8 = true := by decide

theorem scheduled_zeroKey : Scheduled zeroKey keyed where
  length := rfl
  sKeys := by
    intro i hi
    have hd : i.val < keyDepth zeroKey := hi
    simp [keyed, hd]
  lKeys := rfl
  tables := rfl

theorem witness_DatapathGIsHOverReversedSboxKeys : Scheduled zeroKey keyed ∧ keyed.k.toNat ≤ 4 := ⟨scheduled_zeroKey, by decide⟩

theorem witness_SingleBlockCommandsAreOneBlockEcb : zeroKey.length = 16 := rfl

theorem witness_EcbConcatenatesAndRoundTrips :
    keyed.keyValid = true ∧ ([] : List Byte).length % 16 = 0 ∧ zeroKey.length % 16 = 0 ∧ key256.length % 16 = 0 := by
  refine ⟨rfl, by decide, by decide, by decide⟩

theorem witness_CbcStreamsMayBeCutAtBlockBoundaries :
    streaming.keyValid = true ∧ streaming.ivValid = true ∧ ([] : List Byte).length % 16 = 0 ∧ key256.length % 16 = 0 := by
  refine ⟨rfl, rfl, by decide, by decide⟩

theorem witness_CbcRoundTripsUnderOneIv : keyed.keyValid = true ∧ zeroKey.length = 16 ∧ key256.length % 16 = 0 := by
  refine ⟨rfl, rfl, by decide⟩

theorem witness_CbcErrorReachesTwoBlocksOnly_first :
    streaming.keyValid = true ∧ streaming.ivValid = true ∧ (List.replicate 32 (0 : Byte)).length % 16 = 0 ∧
      (1 :: List.replicate 31 (0 : Byte)).length = (List.replicate 32 (0 : Byte)).length ∧ 0 < (List.replicate 32 (0 : Byte)).length / 16 ∧
      blockOf [1] ≠ Vector.replicate 16 0 ∧
      blockAt (1 :: List.replicate 31 0) 0 = xorBlock (blockAt (List.replicate 32 0) 0) (blockOf [1]) ∧
      ∀ i, i < (List.replicate 32 (0 : Byte)).length / 16 → i ≠ 0 →
        blockAt (1 :: List.replicate 31 0) i = blockAt (List.replicate 32 0) i := by
  refine ⟨rfl, rfl, by decide, by decide, by decide, by decide, by decide +kernel, ?_⟩
  intro i hi h0
  obtain rfl : i = 1 := by simp at hi; omega
  decide

theorem witness_CbcErrorReachesTwoBlocksOnly_last :
    (List.replicate 16 (0 : Byte)).length % 16 = 0 ∧ 0 < (List.replicate 16 (0 : Byte)).length / 16 ∧
      0 + 1 = (List.replicate 16 (0 : Byte)).length / 16 ∧ blockOf [1] ≠ Vector.replicate 16 0 ∧
      blockAt (1 :: List.replicate 15 0) 0 = xorBlock (blockAt (List.replicate 16 0) 0) (blockOf [1]) := by decide +kernel

theorem witness_CbcOfOneBlockUnderZeroIvIsEcb : keyed.keyValid = true ∧ zeroKey.length = 16 := ⟨rfl, rfl⟩

theorem witness_RekeyingClosesTheCbcStream :
    (zeroKey.length = 16 ∨ zeroKey.length = 24 ∨ zeroKey.length = 32) ∧ (∃ t, exec (.sched zeroKey) streaming = .next t) ∧
      zeroKey.length = 16 := ⟨.inl rfl, ⟨_, rfl⟩, rfl⟩

theorem witness_OnlyTheNamedWritersWrite :
    (∃ t, exec (.sched key192) streaming = .next t) ∧ (∃ t, exec (.stat []) streaming = .next t) ∧ (∀ key, Instr.stat [] ≠ .sched key) ∧
      (∀ x, Instr.stat [] ≠ .cbci x) ∧ (∀ x, Instr.stat [] ≠ .cbce x) ∧ ∀ x, Instr.stat [] ≠ .cbcd x :=
  ⟨⟨_, rfl⟩, ⟨_, rfl⟩, fun _ h => (nomatch h), fun _ h => (nomatch h), fun _ h => (nomatch h), fun _ h => nomatch h⟩

theorem inv_streaming_facing (f : List Byte) : Inv (facing streaming f []) where
  noKey := ⟨fun h => (nomatch h), fun h => absurd h (show ¬ (2 : BitVec 3) = 0 by decide)⟩
  depth := .inr (.inl rfl)
  scheduled := fun _ => ⟨zeroKey, ⟨rfl, fun i hi => scheduled_zeroKey.sKeys i hi, rfl, rfl⟩⟩
  ivNeedsKey := fun _ => rfl
  noError := ⟨fun _ => rfl, fun _ => rfl⟩
  lastErr := Nat.zero_le 5

theorem witness_EveryStepKeepsTheInvariant :
    Inv (facing streaming [9, 0, 0, 0] []) ∧ ∃ t, step (facing streaming [9, 0, 0, 0] []) = .next t :=
  ⟨inv_streaming_facing _, _, rfl⟩

theorem witness_InvariantHoldsInEveryReachableState :
    Reachable ((State.reset.hostSend [2, 0, 0]).hostTake 1).hostReset ∧ ∃ t, Reachable t ∧ t.lastErr = 1 :=
  ⟨.rst (.take 1 (.send _ .reset)),
    ⟨_, .step (t := failed State.reset 1) (.send [0x0A, 0, 0, 0] .reset) rfl, rfl⟩⟩

theorem witness_UnreadableStateIsNeverRead :
    Agree State.reset { State.reset with cv := Vector.replicate 16 1, lKey := Vector.replicate 40 5 } := by
  constructor <;> first | rfl | (intro h; exact absurd h (by decide))

end Sys2Proof.Tests
end

section
/-! SUPPORT. Response frames byte by byte, and what a command or a step that answers a next state has done. -/

namespace Sys2Proof

open Sys2Proof.Safety

/-- Rule R61: bits 7:0 of a header word are its first byte. -/
@[simp] theorem byteN_frameHeader_zero (low : Byte) (n : Nat) : byteN (frameHeader low n) 0 = low := by
  apply BitVec.eq_of_getLsbD_eq
  intro i hi
  rw [byteN_getLsbD, frameHeader]
  simp [hi, show i < 32 by omega]

/-- Rule R61: bits 31:8 of a header word are the length, byte by byte. -/
theorem byteN_frameHeader_succ (low : Byte) (n : Nat) {k : Nat} (hk : k < 3) :
    byteN (frameHeader low n) (k + 1) = BitVec.ofNat 8 (n / 2 ^ (8 * k)) := by
  apply BitVec.eq_of_getLsbD_eq
  intro i hi
  have hlow : low.getLsbD (8 * (k + 1) + i) = false := BitVec.getLsbD_of_ge low _ (by omega)
  have hbit : 8 * (k + 1) + i - 8 = 8 * k + i := by omega
  rw [byteN_getLsbD, frameHeader, BitVec.getLsbD_or, BitVec.getLsbD_setWidth, BitVec.getLsbD_shiftLeft, hlow, hbit,
    BitVec.getLsbD_ofNat, BitVec.getLsbD_ofNat, Nat.testBit_div_two_pow, Nat.add_comm i]
  simp [hi, show 8 * (k + 1) + i < 32 by omega, show ¬ 8 * (k + 1) + i < 8 by omega, show 8 * k + i < 32 by omega]

/-- Rules R61 and R64: a frame is its four header bytes and then its payload. -/
theorem frame_eq_headerBytes_append (low : Byte) (payload : List Byte) :
    frame low payload = headerBytes low payload.length ++ payload := by
  have h1 : byteN (frameHeader low payload.length) 1 = BitVec.ofNat 8 payload.length := by
    simpa using byteN_frameHeader_succ low payload.length (k := 0) (by decide)
  have h2 : byteN (frameHeader low payload.length) 2 = BitVec.ofNat 8 (payload.length / 256) :=
    byteN_frameHeader_succ low payload.length (k := 1) (by decide)
  have h3 : byteN (frameHeader low payload.length) 3 = BitVec.ofNat 8 (payload.length / 65536) :=
    byteN_frameHeader_succ low payload.length (k := 2) (by decide)
  rw [frame, wordBytes, headerBytes, byteN_frameHeader_zero, h1, h2, h3]

/-- Rule R64: a frame without payload, the response of every error. -/
theorem frame_nil (low : Byte) : frame low [] = [low, 0x00, 0x00, 0x00] := by
  simp [frame_eq_headerBytes_append, headerBytes]

end Sys2Proof

namespace Sys2Proof.Machine

variable {s t u : State} {i : Instr}

/-- Rule R65: no error has the code of OK. -/
theorem ErrorCode.code_ne_zero (e : ErrorCode) : e.code ≠ 0 := by
  cases e <;> decide

/-- A command that answers a next state has raised one error, or answered OK after one of its writes. -/
theorem exec_next_cases (h : exec i s = .next t) :
    (∃ e : ErrorCode, t = (s.recordError e).respond (e.code.setWidth 8) []) ∨
      ∃ u out, Writes s i u ∧ t = u.respond 0x00 out := by
  rcases exec_cases i s with ⟨e, he⟩ | ⟨u, out, hw, ho⟩
  · rw [he] at h
    cases h
    exact .inl ⟨e, rfl⟩
  · rw [ho] at h
    cases h
    exact .inr ⟨u, out, hw, rfl⟩

/-- Rule R230: a pending reset is the next step. -/
theorem step_of_rst (hr : s.rst = true) : step s = .next State.reset := by
  simp [step, hr, resetStep]

/-- A step without a pending reset that answers a next state has taken a frame, and then raised one error, or answered OK
after one of a command's writes. -/
theorem step_next_cases (hr : s.rst = false) (h : step s = .next t) :
    ∃ rest, (∃ e : ErrorCode, t = ((s.takeFrame rest).recordError e).respond (e.code.setWidth 8) []) ∨
      ∃ i u out, Writes (s.takeFrame rest) i u ∧ t = u.respond 0x00 out := by
  rcases step_cases s with ⟨hr', -⟩ | ⟨-, i, rest, -, hs⟩ | ⟨-, opc, rest, -, hs⟩ | ⟨-, -, f, hs⟩
  · simp [hr] at hr'
  · rw [hs] at h
    exact ⟨rest, (exec_next_cases h).imp id fun hw => ⟨i, hw⟩⟩
  · rw [hs] at h
    cases h
    exact ⟨rest, .inl ⟨.badOp, rfl⟩⟩
  · simp [hs] at h

/-- No command writes the error record, the response stream, the command stream or the reset request before it answers. -/
theorem Writes.record_streams_eq (h : Writes s i u) :
    u.err = s.err ∧ u.lastErr = s.lastErr ∧ u.rsp = s.rsp ∧ u.cmd = s.cmd ∧ u.rst = s.rst := by
  cases h <;> simp

/-- Rule R35: only SCHED writes the scheduled cipher. -/
theorem Writes.cipher_eq (h : Writes s i u) (hi : ∀ key, i ≠ .sched key) :
    u.keyValid = s.keyValid ∧ u.k = s.k ∧ u.sKey = s.sKey ∧ u.lKey = s.lKey ∧ u.mkTab = s.mkTab := by
  cases h with
  | key => exact absurd rfl (hi _)
  | nothing | iv | cbce | cbcd => simp

/-- Rule R26: only CBCI, CBCE and CBCD write `CV`. -/
theorem Writes.cv_eq (h : Writes s i u) (hi : (∀ x, i ≠ .cbci x) ∧ (∀ x, i ≠ .cbce x) ∧ ∀ x, i ≠ .cbcd x) :
    u.cv = s.cv := by
  obtain ⟨hcbci, hcbce, hcbcd⟩ := hi
  cases h with
  | nothing | key => simp
  | iv => exact absurd rfl (hcbci _)
  | cbce => exact absurd rfl (hcbce _)
  | cbcd => exact absurd rfl (hcbcd _)

/-- Rule R27: only CBCI sets `IV_VALID`. -/
theorem Writes.ivValid_of_ivValid (h : Writes s i u) (hi : ∀ x, i ≠ .cbci x) (hu : u.ivValid = true) :
    s.ivValid = true := by
  cases h with
  | key => simp at hu
  | iv => exact absurd rfl (hi _)
  | nothing | cbce | cbcd => simpa using hu

/-- Rule R27: only SCHED clears `IV_VALID`. -/
theorem Writes.ivValid_keeps (h : Writes s i u) (hi : ∀ key, i ≠ .sched key) (hs : s.ivValid = true) :
    u.ivValid = true := by
  cases h with
  | key => exact absurd rfl (hi _)
  | nothing | iv | cbce | cbcd => simp [hs]

/-- Rule R21: `KEY_VALID` never goes back to 0. -/
theorem Writes.keyValid_keeps (h : Writes s i u) (hs : s.keyValid = true) : u.keyValid = true := by
  cases h <;> simp [hs]

/-- Whether it answers OK or an error, a command makes one of its writes (before an error, none) and then touches no
more than the error record and the response stream. -/
theorem exec_next_writes (h : exec i s = .next t) :
    ∃ u err lastErr rsp, Writes s i u ∧ t = { u with err := err, lastErr := lastErr, rsp := rsp } := by
  rcases exec_next_cases h with ⟨e, rfl⟩ | ⟨u, out, hw, rfl⟩
  · exact ⟨s, _, _, _, .nothing i, rfl⟩
  · exact ⟨u, _, _, _, hw, rfl⟩

end Sys2Proof.Machine
end

section
/-! The statements of the family of the state. -/

namespace Sys2Proof.Proofs

open Sys2Proof.Machine

/-- Settles O22: a reset step leaves the reset state; every other step takes a frame and then either enters an error or
answers OK after a write that does not touch the record. -/
theorem errorRecordIsSticky : Obligations.ErrorRecordIsSticky := by
  unfold Obligations.ErrorRecordIsSticky
  refine ⟨fun s t hr h => ?_, fun s t hr h => ?_⟩
  · rw [step_of_rst hr] at h
    cases h
    exact ⟨rfl, rfl⟩
  · obtain ⟨rest, ⟨e, rfl⟩ | ⟨i, u, out, hw, rfl⟩⟩ := step_next_cases hr h
    · exact .inr ⟨e, by simp [frame_nil], rfl, rfl, e.code_ne_zero⟩
    · obtain ⟨herr, hlast, hrsp, -, -⟩ := hw.record_streams_eq
      exact .inl ⟨out, by simp [hrsp, frame_eq_headerBytes_append], herr, hlast⟩

/-- Settles O53: each item is a fact about the one write a command may make before it answers. -/
theorem onlyTheNamedWritersWrite : Obligations.OnlyTheNamedWritersWrite := by
  unfold Obligations.OnlyTheNamedWritersWrite
  intro i s t h
  obtain ⟨u, err, lastErr, rsp, hw, rfl⟩ := exec_next_writes h
  obtain ⟨-, -, -, hcmd, hrst⟩ := hw.record_streams_eq
  exact ⟨hw.cipher_eq, hw.cv_eq, hw.ivValid_of_ivValid, hw.ivValid_keeps, hw.keyValid_keeps, hcmd, hrst⟩

end Sys2Proof.Proofs
end

section
/-! SUPPORT. The header word as a number, the LEN field read back from its bytes, and the one frame that a stream starts
with. -/

namespace Sys2Proof

open Sys2Proof.Safety

/-- Rule R61: the header word is the first byte plus 256 times a length of 24 bits. -/
theorem frameHeader_toNat (low : Byte) {n : Nat} (hn : n ≤ Config.maxLen) :
    (frameHeader low n).toNat = low.toNat + 256 * n := by
  have hlow : low.toNat < 2 ^ 8 := low.isLt
  have hn24 : n ≤ 16777215 := hn
  have hword : n * 2 ^ 8 < 2 ^ 32 := by omega
  calc (frameHeader low n).toNat
      = low.toNat ||| n * 2 ^ 8 := by
        rw [frameHeader, BitVec.toNat_or, BitVec.toNat_shiftLeft, BitVec.toNat_ofNat, BitVec.toNat_setWidth,
          Nat.shiftLeft_eq, Nat.mod_eq_of_lt (a := low.toNat) (by omega), Nat.mod_eq_of_lt (a := n) (by omega),
          Nat.mod_eq_of_lt hword]
    _ = 2 ^ 8 * n + low.toNat := by
        rw [Nat.or_comm, Nat.mul_comm, Nat.two_pow_add_eq_or_of_lt hlow]
    _ = low.toNat + 256 * n := by omega

/-- Rule R61: bits 31:8 of the header word are the length. -/
theorem frameHeader_extractLsb'_len (low : Byte) {n : Nat} (hn : n ≤ Config.maxLen) :
    ((frameHeader low n).extractLsb' 8 24).toNat = n := by
  have hlow := low.isLt
  have hn24 : n ≤ 16777215 := hn
  rw [BitVec.extractLsb'_toNat, frameHeader_toNat low hn, Nat.shiftRight_eq_div_pow]
  omega

/-- Rules R47 and R61: the stream bytes of a header word. -/
theorem wordBytes_frameHeader (low : Byte) (n : Nat) : wordBytes (frameHeader low n) = headerBytes low n := by
  simpa [frame] using frame_eq_headerBytes_append low (List.replicate n 0)

/-- Rules R61 and R63: the LEN field is read back from the three bytes it was written to. -/
theorem frameLen_lenBytes {n : Nat} (hn : n ≤ Config.maxLen) :
    frameLen (BitVec.ofNat 8 n) (BitVec.ofNat 8 (n / 256)) (BitVec.ofNat 8 (n / 65536)) = n := by
  have hn24 : n ≤ 16777215 := hn
  simp only [frameLen, BitVec.toNat_ofNat]
  omega

/-- Rules R61 and R63: three bytes are the ones that the LEN read from them is written to. -/
theorem headerBytes_frameLen (low b1 b2 b3 : Byte) : headerBytes low (frameLen b1 b2 b3) = [low, b1, b2, b3] := by
  have hb1 : BitVec.ofNat 8 (frameLen b1 b2 b3) = b1 := by unfold frameLen; bv_omega
  have hb2 : BitVec.ofNat 8 (frameLen b1 b2 b3 / 256) = b2 := by unfold frameLen; bv_omega
  have hb3 : BitVec.ofNat 8 (frameLen b1 b2 b3 / 65536) = b3 := by unfold frameLen; bv_omega
  rw [headerBytes, hb1, hb2, hb3]

/-- Rules R60 and R63: a frame in front of a stream is taken whole, and nothing behind it. -/
theorem splitFrame_frame_append (low : Byte) {inp : List Byte} (rest : List Byte) (hlen : inp.length ≤ Config.maxLen) :
    splitFrame (frame low inp ++ rest) = some (low, inp, rest) := by
  simp [frame_eq_headerBytes_append, headerBytes, splitFrame, frameLen_lenBytes hlen]

/-- Rules R60 and R63: taking a frame and building it are inverse to each other. -/
theorem splitFrame_eq_some_iff {bs inp rest : List Byte} {low : Byte} :
    splitFrame bs = some (low, inp, rest) ↔ inp.length ≤ Config.maxLen ∧ bs = frame low inp ++ rest := by
  constructor
  · intro h
    obtain ⟨b1, b2, b3, hbs, hlen⟩ := splitFrame_some h
    refine ⟨splitFrame_payload_length h, ?_⟩
    rw [hbs, frame_eq_headerBytes_append, hlen, headerBytes_frameLen]
    rfl
  · rintro ⟨hlen, rfl⟩
    exact splitFrame_frame_append low rest hlen

/-- Rule R62: an opcode and a payload stand for a command when they are that command's own. -/
theorem commandOf_eq_some_iff {opc : Byte} {inp : List Byte} {i : Instr} :
    commandOf opc inp = some i ↔ opcodeOf i = opc ∧ i.payload = inp := by
  constructor
  · exact commandOf_some
  · rintro ⟨rfl, rfl⟩
    exact commandOf_opcodeOf i

/-- Rule R63: the decoder reads a command where it takes a frame with that command's opcode and payload. -/
theorem decode_eq_command_iff_splitFrame {bs rest : List Byte} {i : Instr} :
    decode bs = .command i rest ↔ splitFrame bs = some (opcodeOf i, i.payload, rest) := by
  constructor
  · intro h
    unfold decode at h
    split at h
    case h_1 => cases h
    case h_2 opc inp tl hsplit =>
      split at h
      case h_1 j hj =>
        cases h
        obtain ⟨rfl, rfl⟩ := commandOf_eq_some_iff.mp hj
        exact hsplit
      case h_2 => cases h
  · intro h
    simp [decode, h]

/-- Rules R60 to R63: the decoder reads a command exactly from the streams that start with the frame of that well-formed
command. -/
theorem decode_eq_command_iff {bs rest : List Byte} {i : Instr} :
    decode bs = .command i rest ↔ i.wf = true ∧ bs = encode i ++ rest := by
  rw [decode_eq_command_iff_splitFrame, splitFrame_eq_some_iff, encode, Instr.wf, decide_eq_true_iff]

end Sys2Proof
end

section
/-! The statements of the family of the encoding. -/

namespace Sys2Proof.Proofs

/-- Settles O1: a stream that starts with a well-formed command's frame decodes to it. -/
theorem decodeOfEncodeIsTheCommand : Obligations.DecodeOfEncodeIsTheCommand := by
  unfold Obligations.DecodeOfEncodeIsTheCommand
  intro i rest hwf
  exact decode_eq_command_iff.mpr ⟨hwf, rfl⟩

/-- Settles O2: only a stream that starts with a well-formed command's frame decodes to it. -/
theorem decodedCommandIsItsOneFrame : Obligations.DecodedCommandIsItsOneFrame := by
  unfold Obligations.DecodedCommandIsItsOneFrame
  intro bs rest i h
  exact decode_eq_command_iff.mp h

/-- Settles O4: the length field and the number by the header word's arithmetic, the byte field and the stream bytes by
its bytes. -/
theorem headerWordHoldsOpcodeAndLength : Obligations.HeaderWordHoldsOpcodeAndLength := by
  unfold Obligations.HeaderWordHoldsOpcodeAndLength
  intro low len hlen
  have hnumber : frameHeader low len = BitVec.ofNat 32 (low.toNat + 256 * len) := by
    rw [← frameHeader_toNat low hlen, BitVec.ofNat_toNat, BitVec.setWidth_eq]
  exact ⟨byteN_frameHeader_zero low len, frameHeader_extractLsb'_len low hlen, hnumber, wordBytes_frameHeader low len⟩

end Sys2Proof.Proofs
end

section
/-! SUPPORT. Exclusive or as the addition of the primitives of `40_primitives.md`: gated terms, maps that distribute over
it, and the two constructions of words from bytes and bytes from words. -/

namespace Sys2Proof

variable {v w : Nat}

/-- The term that a condition `if b then r ^ x else r` adds to `r` (rules R80 and R91). -/
def gated (b : Bool) (x : BitVec w) : BitVec w := if b then x else 0

@[simp] theorem gated_true (x : BitVec w) : gated true x = x := rfl

@[simp] theorem gated_false (x : BitVec w) : gated false x = 0 := rfl

/-- A conditional exclusive or adds the gated term. -/
theorem ite_xor_eq_xor_gated (b : Bool) (r x : BitVec w) : (if b then r ^^^ x else r) = r ^^^ gated b x := by
  cases b <;> simp

theorem gated_xor (b : Bool) (x y : BitVec w) : gated b (x ^^^ y) = gated b x ^^^ gated b y := by
  cases b <;> simp

theorem gated_bxor (b c : Bool) (x : BitVec w) : gated (b ^^ c) x = gated b x ^^^ gated c x := by
  cases b <;> cases c <;> simp

theorem gated_getLsbD (b : Bool) (x : BitVec w) (i : Nat) : (gated b x).getLsbD i = (b && x.getLsbD i) := by
  cases b <;> simp

/-- The low `n + 1` bits of a word are its low `n` bits and, gated, bit `n`. -/
theorem setWidth_succ_eq_xor_gated (a : BitVec v) (n : Nat) :
    (a.setWidth (n + 1)).setWidth v = (a.setWidth n).setWidth v ^^^ gated (a.getLsbD n) (BitVec.twoPow v n) := by
  apply BitVec.eq_of_getLsbD_eq
  intro i hi
  simp only [BitVec.getLsbD_xor, BitVec.getLsbD_setWidth, BitVec.getLsbD_twoPow, gated_getLsbD]
  obtain hlt | rfl | hgt := Nat.lt_trichotomy i n
  · simp [hlt, Nat.lt_succ_of_lt hlt, hlt.ne']
  · simp [hi]
  · simp [show ¬ i < n + 1 by omega, show ¬ i < n by omega, hgt.ne]

/-- A map that distributes over exclusive or. -/
def XorAdditive (f : BitVec v → BitVec w) : Prop := ∀ a b, f (a ^^^ b) = f a ^^^ f b

theorem XorAdditive.map_zero {f : BitVec v → BitVec w} (hf : XorAdditive f) : f 0 = 0 := by
  simpa using hf 0 0

theorem XorAdditive.map_gated {f : BitVec v → BitVec w} (hf : XorAdditive f) (b : Bool) (x : BitVec v) :
    f (gated b x) = gated b (f x) := by
  cases b
  · exact hf.map_zero
  · rfl

theorem xorAdditive_id : XorAdditive fun a : BitVec v => a := fun _ _ => rfl

theorem xorAdditive_gated_getLsbD (i : Nat) (x : BitVec w) : XorAdditive fun a : BitVec v => gated (a.getLsbD i) x :=
  fun a b => by simp only [BitVec.getLsbD_xor, gated_bxor]

theorem XorAdditive.xor {f g : BitVec v → BitVec w} (hf : XorAdditive f) (hg : XorAdditive g) :
    XorAdditive fun a => f a ^^^ g a := by
  intro a b
  simp only [hf a b, hg a b]
  ac_rfl

theorem XorAdditive.shiftLeft {f : BitVec v → BitVec w} (hf : XorAdditive f) (n : Nat) : XorAdditive fun a => f a <<< n :=
  fun a b => by simp only [hf a b, BitVec.shiftLeft_xor_distrib]

theorem XorAdditive.ushiftRight {f : BitVec v → BitVec w} (hf : XorAdditive f) (n : Nat) :
    XorAdditive fun a => f a >>> n :=
  fun a b => by simp only [hf a b, BitVec.ushiftRight_xor_distrib]

/-- Maps that distribute over exclusive or are equal when they agree on the words with one bit set. -/
theorem XorAdditive.eq_of_twoPow {f g : BitVec v → BitVec w} (hf : XorAdditive f) (hg : XorAdditive g)
    (hbit : ∀ i < v, f (BitVec.twoPow v i) = g (BitVec.twoPow v i)) (a : BitVec v) : f a = g a := by
  have hlow : ∀ n ≤ v, f ((a.setWidth n).setWidth v) = g ((a.setWidth n).setWidth v) := by
    intro n hn
    induction n with
    | zero => simpa [BitVec.of_length_zero] using hf.map_zero.trans hg.map_zero.symm
    | succ n ih =>
      rw [setWidth_succ_eq_xor_gated, hf, hg, hf.map_gated, hg.map_gated, ih (Nat.le_of_succ_le hn), hbit n hn]
  simpa using hlow v le_rfl

/-- A map of two words that distributes over the exclusive or of both at once. -/
def XorAdditive₂ (f : BitVec v → BitVec v → BitVec w) : Prop :=
  ∀ a b c d, f (a ^^^ c) (b ^^^ d) = f a b ^^^ f c d

theorem XorAdditive₂.left {f : BitVec v → BitVec v → BitVec w} (hf : XorAdditive₂ f) : XorAdditive fun a => f a 0 :=
  fun a c => by simpa using hf a 0 c 0

theorem XorAdditive₂.right {f : BitVec v → BitVec v → BitVec w} (hf : XorAdditive₂ f) : XorAdditive fun b => f 0 b :=
  fun b d => by simpa using hf 0 b 0 d

/-- Maps of two words that distribute over exclusive or are equal when they agree where one bit of one word is set. -/
theorem XorAdditive₂.eq_of_twoPow {f g : BitVec v → BitVec v → BitVec w} (hf : XorAdditive₂ f) (hg : XorAdditive₂ g)
    (hleft : ∀ i < v, f (BitVec.twoPow v i) 0 = g (BitVec.twoPow v i) 0)
    (hright : ∀ i < v, f 0 (BitVec.twoPow v i) = g 0 (BitVec.twoPow v i)) (a b : BitVec v) : f a b = g a b :=
  calc f a b = f a 0 ^^^ f 0 b := by simpa using hf a 0 0 b
    _ = g a 0 ^^^ g 0 b := by
        rw [hf.left.eq_of_twoPow hg.left hleft a, hf.right.eq_of_twoPow hg.right hright b]
    _ = g a b := by simpa using (hg a 0 0 b).symm

theorem byteN_xor (a b : Word) (n : Nat) : byteN (a ^^^ b) n = byteN a n ^^^ byteN b n :=
  BitVec.extractLsb'_xor

theorem le32_xor (a0 a1 a2 a3 b0 b1 b2 b3 : Byte) :
    le32 (a0 ^^^ b0) (a1 ^^^ b1) (a2 ^^^ b2) (a3 ^^^ b3) = le32 a0 a1 a2 a3 ^^^ le32 b0 b1 b2 b3 := by
  apply BitVec.eq_of_getLsbD_eq
  intro i hi
  simp only [le32_getLsbD, BitVec.getLsbD_xor]
  split_ifs <;> rfl

end Sys2Proof
end

section
/-! SUPPORT. The laws of `gfmul` (rule R80), from two facts: its loop distributes over exclusive or on each side, and it
passes through every map that does so too and commutes with the multiplication by x. -/

namespace Sys2Proof

/-- Rule R80: multiplication by x is a shift, and the reduction when bit 7 goes out. -/
theorem gfDouble_eq (p : BitVec 9) (a : Byte) : gfDouble p a = a <<< 1 ^^^ gated (a.getLsbD 7) (p.setWidth 8) := by
  have hshift : (a.setWidth 9 <<< 1).setWidth 8 = a <<< 1 := by
    apply BitVec.eq_of_getLsbD_eq
    intro i hi
    simp [hi]
  have hout : (a.setWidth 9 <<< 1).getLsbD 8 = a.getLsbD 7 := by simp
  simp only [gfDouble, ite_xor_eq_xor_gated, hout, BitVec.setWidth_xor, hshift]
  cases a.getLsbD 7 <;> simp

theorem gfDouble_xorAdditive (p : BitVec 9) : XorAdditive (gfDouble p) := by
  rw [funext (gfDouble_eq p)]
  exact (xorAdditive_id.shiftLeft 1).xor (xorAdditive_gated_getLsbD 7 _)

/-- Rule R80: one iteration of the loop. -/
theorem gfLoop_succ (p : BitVec 9) (b : Byte) (n i : Nat) (a r : Byte) :
    gfLoop p b (n + 1) i a r = gfLoop p b n (i + 1) (gfDouble p a) (r ^^^ gated (b.getLsbD i) a) := by
  rw [gfLoop, ite_xor_eq_xor_gated]

theorem gfLoop_xor_left (p : BitVec 9) (b : Byte) (n i : Nat) (a a' r r' : Byte) :
    gfLoop p b n i (a ^^^ a') (r ^^^ r') = gfLoop p b n i a r ^^^ gfLoop p b n i a' r' := by
  induction n generalizing i a a' r r' with
  | zero => rfl
  | succ n ih =>
    have hacc : r ^^^ r' ^^^ gated (b.getLsbD i) (a ^^^ a') =
        r ^^^ gated (b.getLsbD i) a ^^^ (r' ^^^ gated (b.getLsbD i) a') := by rw [gated_xor]; ac_rfl
    simp only [gfLoop_succ, hacc, gfDouble_xorAdditive p a a', ih]

theorem gfLoop_xor_right (p : BitVec 9) (b b' : Byte) (n i : Nat) (a r r' : Byte) :
    gfLoop p (b ^^^ b') n i a (r ^^^ r') = gfLoop p b n i a r ^^^ gfLoop p b' n i a r' := by
  induction n generalizing i a r r' with
  | zero => rfl
  | succ n ih =>
    have hacc : r ^^^ r' ^^^ gated ((b ^^^ b').getLsbD i) a =
        r ^^^ gated (b.getLsbD i) a ^^^ (r' ^^^ gated (b'.getLsbD i) a) := by
      rw [BitVec.getLsbD_xor, gated_bxor]; ac_rfl
    simp only [gfLoop_succ, hacc, ih]

theorem gfmul_xor_left (a a' b : Byte) (p : BitVec 9) : gfmul (a ^^^ a') b p = gfmul a b p ^^^ gfmul a' b p :=
  gfLoop_xor_left p b 8 0 a a' 0 0

theorem gfmul_xor_right (a b b' : Byte) (p : BitVec 9) : gfmul a (b ^^^ b') p = gfmul a b p ^^^ gfmul a b' p :=
  gfLoop_xor_right p b b' 8 0 a 0 0

/-- The loop passes through a map that distributes over exclusive or and commutes with the multiplication by x. -/
theorem XorAdditive.map_gfLoop {f : Byte → Byte} {p : BitVec 9} (hf : XorAdditive f)
    (hx : ∀ a, f (gfDouble p a) = gfDouble p (f a)) (b : Byte) (n i : Nat) (a r : Byte) :
    f (gfLoop p b n i a r) = gfLoop p b n i (f a) (f r) := by
  induction n generalizing i a r with
  | zero => rfl
  | succ n ih => simp only [gfLoop_succ, ih, hx, hf r, hf.map_gated]

theorem XorAdditive.map_gfmul {f : Byte → Byte} {p : BitVec 9} (hf : XorAdditive f)
    (hx : ∀ a, f (gfDouble p a) = gfDouble p (f a)) (a b : Byte) : f (gfmul a b p) = gfmul (f a) b p := by
  rw [gfmul, hf.map_gfLoop hx, hf.map_zero, gfmul]

/-- A factor x may be taken out of a product. -/
theorem gfmul_gfDouble_left (a b : Byte) (p : BitVec 9) : gfmul (gfDouble p a) b p = gfDouble p (gfmul a b p) :=
  ((gfDouble_xorAdditive p).map_gfmul (fun _ => rfl) a b).symm

/-- Below bit 7, multiplication by x does not reduce. -/
theorem gfDouble_twoPow (p : BitVec 9) {i : Nat} (hi : i < 7) :
    gfDouble p (BitVec.twoPow 8 i) = BitVec.twoPow 8 (i + 1) := by
  have htop : (BitVec.twoPow 8 i).getLsbD 7 = false := by
    rw [BitVec.getLsbD_twoPow]
    simp [hi.ne]
  rw [gfDouble_eq, htop]
  simp [BitVec.twoPow, BitVec.shiftLeft_add]

/-- The loop on 1 collects the bits of the other factor, the low `i` of them before bit `i`. -/
theorem gfLoop_twoPow (p : BitVec 9) (b : Byte) {n i : Nat} (hi : i + n = 7) :
    gfLoop p b (n + 1) i (BitVec.twoPow 8 i) ((b.setWidth i).setWidth 8) = b := by
  induction n generalizing i with
  | zero =>
    obtain rfl : i = 7 := hi
    rw [gfLoop_succ, ← setWidth_succ_eq_xor_gated]
    simp [gfLoop]
  | succ n ih =>
    rw [gfLoop_succ, ← setWidth_succ_eq_xor_gated, gfDouble_twoPow p (by omega)]
    exact ih (by omega)

theorem gfmul_one_left (b : Byte) (p : BitVec 9) : gfmul 1 b p = b :=
  calc gfmul 1 b p = gfLoop p b 8 0 (BitVec.twoPow 8 0) ((b.setWidth 0).setWidth 8) := by
        rw [BitVec.of_length_zero (x := b.setWidth 0)]; rfl
    _ = b := gfLoop_twoPow p b (n := 7) rfl

/-- Rule R80: `gfmul` is commutative: multiplying by `b` takes the product of 1 and `a` to that of `b` and `a`. -/
theorem gfmul_comm (a b : Byte) (p : BitVec 9) : gfmul a b p = gfmul b a p := by
  have hmap := XorAdditive.map_gfmul (f := fun c => gfmul c b p) (p := p) (fun c d => gfmul_xor_left c d b p)
    (fun c => gfmul_gfDouble_left c b p) 1 a
  simpa only [gfmul_one_left] using hmap

theorem gfmul_two_right (a : Byte) (p : BitVec 9) : gfmul a 2 p = gfDouble p a := by
  have htwo : gfDouble p 1 = 2 := by simp [gfDouble_eq]
  rw [gfmul_comm, ← htwo, gfmul_gfDouble_left, gfmul_one_left]

theorem gfmul_xorAdditive (a : Byte) (p : BitVec 9) : XorAdditive fun b => gfmul a b p :=
  fun b c => gfmul_xor_right a b c p

end Sys2Proof
end

section
/-! SUPPORT. The shift forms of the two multipliers (rule R95) distribute over exclusive or: the constants that the two
low bits select are the sums of those that each of them selects. -/

namespace Sys2Proof

theorem and_three_eq (v : Byte) : v &&& 3 = gated (v.getLsbD 0) 1 ^^^ gated (v.getLsbD 1) 2 := by
  revert v
  decide

theorem t5B_getD_eq (v : Byte) :
    t5B.getD (v &&& 3).toNat 0 = gated (v.getLsbD 0) 0x5A ^^^ gated (v.getLsbD 1) 0xB4 := by
  rw [and_three_eq]
  cases v.getLsbD 0 <;> cases v.getLsbD 1 <;> rfl

theorem tEF_getD_eq (v : Byte) :
    tEF.getD (v &&& 3).toNat 0 = gated (v.getLsbD 0) 0xEE ^^^ gated (v.getLsbD 1) 0xB4 := by
  rw [and_three_eq]
  cases v.getLsbD 0 <;> cases v.getLsbD 1 <;> rfl

theorem m5B_xorAdditive : XorAdditive m5B := by
  unfold m5B
  simp only [t5B_getD_eq]
  exact (xorAdditive_id.xor (xorAdditive_id.ushiftRight 2)).xor
    ((xorAdditive_gated_getLsbD 0 _).xor (xorAdditive_gated_getLsbD 1 _))

theorem mEF_xorAdditive : XorAdditive mEF := by
  unfold mEF
  simp only [tEF_getD_eq]
  exact ((xorAdditive_id.xor (xorAdditive_id.ushiftRight 1)).xor (xorAdditive_id.ushiftRight 2)).xor
    ((xorAdditive_gated_getLsbD 0 _).xor (xorAdditive_gated_getLsbD 1 _))

end Sys2Proof
end

section
/-! SUPPORT. The two forms of the RS product (rules R90 and R91) distribute over exclusive or. -/

namespace Sys2Proof

theorem rsByte_xor (i : Fin 4) (w0 w1 z0 z1 : Word) :
    rsByte i (w0 ^^^ z0) (w1 ^^^ z1) = rsByte i w0 w1 ^^^ rsByte i z0 z1 := by
  simp only [rsByte, byteN_xor, gfmul_xor_right]
  ac_rfl

theorem rsMul_xorAdditive₂ : XorAdditive₂ rsMul := by
  intro w0 w1 z0 z1
  simp only [rsMul, rsByte_xor, le32_xor]

/-- Rule R91: `u` as first set, the byte `t` times x modulo 0x14D. -/
def rsTimesX (t : Word) : Word := t <<< 1 ^^^ gated (t.getLsbD 7) 0x14D

/-- Rule R91: `u` as set last, the byte `t` times x and its quotient by x added. -/
def rsTimesXPlusInverse (t : Word) : Word := rsTimesX t ^^^ t >>> 1 ^^^ gated (t.getLsbD 0) 0xA6

/-- Rule R91: what the byte `t` shifted out of the register feeds back into it. -/
def rsFeedback (t : Word) : Word :=
  t ^^^ rsTimesX t <<< 16 ^^^ (rsTimesXPlusInverse t <<< 24 ^^^ rsTimesXPlusInverse t <<< 8)

theorem rsTimesX_xorAdditive : XorAdditive rsTimesX :=
  (xorAdditive_id.shiftLeft 1).xor (xorAdditive_gated_getLsbD 7 _)

theorem rsTimesXPlusInverse_xorAdditive : XorAdditive rsTimesXPlusInverse :=
  (rsTimesX_xorAdditive.xor (xorAdditive_id.ushiftRight 1)).xor (xorAdditive_gated_getLsbD 0 _)

theorem rsFeedback_xorAdditive : XorAdditive rsFeedback :=
  (xorAdditive_id.xor (rsTimesX_xorAdditive.shiftLeft 16)).xor
    ((rsTimesXPlusInverse_xorAdditive.shiftLeft 24).xor (rsTimesXPlusInverse_xorAdditive.shiftLeft 8))

/-- Rule R91: the byte that moves up into the high word meets only zeros. -/
theorem shiftLeft_or_ushiftRight_eq_xor (a b : Word) : a <<< 8 ||| b >>> 24 = a <<< 8 ^^^ b >>> 24 := by
  apply BitVec.eq_of_getLsbD_eq
  intro i hi
  by_cases hlow : i < 8
  · simp [hlow]
  · simp [hlow, BitVec.getLsbD_of_ge b (24 + i) (by omega)]

/-- Rule R91: one turn shifts the register by a byte and adds the feedback of the byte shifted out. -/
theorem rsRemStep_eq (p : Word × Word) :
    rsRemStep p = (p.1 <<< 8 ^^^ p.2 >>> 24 ^^^ rsFeedback (p.1 >>> 24), p.2 <<< 8) := by
  simp only [rsRemStep, ite_xor_eq_xor_gated, shiftLeft_or_ushiftRight_eq_xor, rsFeedback, rsTimesXPlusInverse, rsTimesX]
  simp only [BitVec.xor_assoc]

/-- The exclusive or of two states of the register. -/
def xorPair (p q : Word × Word) : Word × Word := (p.1 ^^^ q.1, p.2 ^^^ q.2)

theorem rsRemStep_xorPair (p q : Word × Word) : rsRemStep (xorPair p q) = xorPair (rsRemStep p) (rsRemStep q) := by
  simp only [rsRemStep_eq, xorPair, BitVec.shiftLeft_xor_distrib, BitVec.ushiftRight_xor_distrib,
    rsFeedback_xorAdditive (p.1 >>> 24) (q.1 >>> 24), Prod.mk.injEq, and_true]
  ac_rfl

theorem repeat_rsRemStep_xorPair (n : Nat) (p q : Word × Word) :
    Nat.repeat rsRemStep n (xorPair p q) = xorPair (Nat.repeat rsRemStep n p) (Nat.repeat rsRemStep n q) := by
  induction n with
  | zero => rfl
  | succ n ih => simp only [Nat.repeat, ih, rsRemStep_xorPair]

theorem rsRem_xorAdditive₂ : XorAdditive₂ rsRem := fun w0 w1 z0 z1 =>
  congrArg Prod.fst (repeat_rsRemStep_xorPair 8 (w1, w0) (z1, z0))

theorem rsRem_twoPow_left : ∀ i < 32, rsRem (BitVec.twoPow 32 i) 0 = rsMul (BitVec.twoPow 32 i) 0 := by decide +kernel

theorem rsRem_twoPow_right : ∀ i < 32, rsRem 0 (BitVec.twoPow 32 i) = rsMul 0 (BitVec.twoPow 32 i) := by decide +kernel

end Sys2Proof
end

section
/-! The statements of the family of the primitives. -/

namespace Sys2Proof.Proofs

/-- Settles O35: each clause is one law of `gfmul`; with 2 for x, multiplication by x is the doubling of the loop. -/
theorem gfmulIsTheProductModuloThePolynomial : Obligations.GfmulIsTheProductModuloThePolynomial := by
  unfold Obligations.GfmulIsTheProductModuloThePolynomial
  intro a b c p _
  refine ⟨gfmul_comm a b p, ?_, (gfmul_xorAdditive a p).map_zero, gfmul_xor_right a b c p, ?_, ?_⟩
  · rw [gfmul_comm, gfmul_one_left]
  · rw [gfmul_two_right, gfDouble_eq, ite_xor_eq_xor_gated]
  · rw [gfmul_two_right, gfmul_two_right, gfmul_gfDouble_left]

/-- Settles O38: the shift forms and the products distribute over exclusive or and agree on the 8 bytes with one bit
set. -/
theorem shiftMultipliersAreTheProducts : Obligations.ShiftMultipliersAreTheProducts := by
  unfold Obligations.ShiftMultipliersAreTheProducts
  intro v
  exact ⟨m5B_xorAdditive.eq_of_twoPow (gfmul_xorAdditive 0x5B polyMds) (by decide) v,
    mEF_xorAdditive.eq_of_twoPow (gfmul_xorAdditive 0xEF polyMds) (by decide) v⟩

/-- Settles O39: both forms distribute over exclusive or and agree on the 64 inputs with one bit set. -/
theorem shiftRegisterIsTheRsProduct : Obligations.ShiftRegisterIsTheRsProduct := by
  unfold Obligations.ShiftRegisterIsTheRsProduct
  exact rsRem_xorAdditive₂.eq_of_twoPow rsMul_xorAdditive₂ rsRem_twoPow_left rsRem_twoPow_right

end Sys2Proof.Proofs
end

section
/-! SUPPORT. The key schedule entry by entry (`41_key_schedule.md` rules R113 to R115), and error entry as the state of
`60_exceptions.md` rule R207. -/

namespace Sys2Proof

/-- Rule R114: the key words with an even index. -/
theorem subkeys_getElem_even (key : List Byte) (i : Nat) (hi : 2 * i < 40) :
    (subkeys key)[2 * i] = evenSubkey key i := by
  simp [subkeys]

/-- Rule R114: the key words with an odd index. -/
theorem subkeys_getElem_odd (key : List Byte) (i : Nat) (hi : 2 * i + 1 < 40) :
    (subkeys key)[2 * i + 1] = oddSubkey key i := by
  have hodd : (2 * i + 1) % 2 = 1 := by omega
  have hhalf : (2 * i + 1) / 2 = i := by omega
  simp [subkeys, hodd, hhalf]

/-- Rule R114: the combination for an odd key word is `A + 2B`. -/
theorem oddSubkey_eq_two_mul (key : List Byte) (i : Nat) :
    oddSubkey key i = rol32 (subkeyA key i + 2 * subkeyB key i) 9 := by
  rw [two_mul, oddSubkey]

/-- Rule R115: one entry of the key-dependent tables. -/
theorem mkTables_getFin (sKeys : List Word) (j : Fin 4) (b : Fin 256) :
    (mkTables sKeys)[j][b] = mkEntry sKeys j (BitVec.ofFin b) := by
  simp [mkTables]

@[simp] theorem sboxKeys_length (key : List Byte) : (sboxKeys key).length = keyDepth key := by
  simp [sboxKeys]

/-- Rule R115: the S-box keys in reverse index order, the list `L` of the mk-tables. -/
theorem sboxKeys_reverse (key : List Byte) :
    (sboxKeys key).reverse = (List.range (keyDepth key)).map fun n => sboxKey key (keyDepth key - 1 - n) := by
  apply List.ext_getElem
  · simp
  · simp [sboxKeys]

end Sys2Proof

namespace Sys2Proof.Machine

open Sys2Proof.Safety

/-- Rule R49: the legal key lengths. -/
theorem isKey_iff (key : List Byte) : isKey key = true ↔ key.length = 16 ∨ key.length = 24 ∨ key.length = 32 := by
  simp [isKey]

/-- Rules R22 and R49: a legal key has at most four S-box keys. -/
theorem keyDepth_le_four_of_isKey {key : List Byte} (hk : isKey key = true) : keyDepth key ≤ 4 := by
  rw [isKey_iff] at hk
  rw [keyDepth]
  omega

/-- Rule R110: SCHED of a legal key stores the schedule and answers OK. -/
theorem exec_sched_of_isKey {key : List Byte} (hk : isKey key = true) (s : State) :
    exec (.sched key) s = ok [] (s.commitKey key) := by
  rcases execSched_cases key s with ⟨-, h⟩ | ⟨hk', -⟩
  · exact h
  · simp [hk] at hk'

/-- Rule R117: SCHED of an illegal key length raises E_KEYLEN. -/
theorem exec_sched_of_not_isKey {key : List Byte} (hk : isKey key = false) (s : State) :
    exec (.sched key) s = raiseError .keyLen s := by
  rcases execSched_cases key s with ⟨hk', -⟩ | ⟨-, h⟩
  · simp [hk] at hk'
  · exact h

/-- Rule R207: every error entry leaves the state `failed`. -/
theorem raiseError_eq_failed (e : ErrorCode) (s : State) : raiseError e s = .next (failed s e.code) := by
  rw [raiseError, State.respond, frame_nil]
  rfl

/-- Rule R64: a response without payload is the status byte and a length of zero. -/
theorem State.respond_nil (s : State) (st : Byte) :
    s.respond st [] = { s with rsp := s.rsp ++ [st, 0x00, 0x00, 0x00] } := by
  rw [State.respond, frame_nil]

/-- Rule R113: a stored S-box key below `k`, read from the list of all four. -/
theorem State.commitKey_sKey_getD (s : State) {key : List Byte} {n : Nat} (hn : n < keyDepth key) (h4 : keyDepth key ≤ 4) :
    (s.commitKey key).sKey.toList.getD n 0 = sboxKey key n := by
  have hlt : n < 4 := by omega
  simp [List.getD_eq_getElem?_getD, hlt, hn]

/-- Rule R115: the list `L` that the stored tables are made from, read back from the stored S-box keys. -/
theorem State.sboxKeys_reverse_eq_commitKey_sKey (s : State) {key : List Byte} (h4 : keyDepth key ≤ 4) :
    (sboxKeys key).reverse =
      (List.range (keyDepth key)).map fun n => (s.commitKey key).sKey.toList.getD (keyDepth key - 1 - n) 0 := by
  rw [sboxKeys_reverse]
  refine List.map_congr_left fun n hn => ?_
  have hlt : n < keyDepth key := List.mem_range.mp hn
  rw [s.commitKey_sKey_getD (by omega) h4]

end Sys2Proof.Machine
end

section
/-! The statements of the family of the key schedule. -/

namespace Sys2Proof.Proofs

open Sys2Proof.Machine

/-- Settles O24: the next state is the committed key's, and each of its entries is what the schedule's definitions give. -/
theorem schedStoresTheKeySchedule : Obligations.SchedStoresTheKeySchedule := by
  unfold Obligations.SchedStoresTheKeySchedule
  intro key s hlen
  have hkey : isKey key = true := (isKey_iff key).mpr hlen
  have hdepth : keyDepth key ≤ 4 := keyDepth_le_four_of_isKey hkey
  refine ⟨(s.commitKey key).respond 0x00 [], exec_sched_of_isKey hkey s, rfl, ?depth, rfl, ?sboxKeys, ?subkeys, ?tables,
    ?frame⟩
  case depth =>
    rw [← keyDepth, State.respond_k, State.commitKey_k, BitVec.toNat_ofNat]
    omega
  case sboxKeys =>
    intro i
    rw [State.respond_sKey, State.commitKey_sKey, tabulate_getFin]
    rfl
  case subkeys =>
    intro i hi
    exact ⟨subkeys_getElem_even key i (by omega), (subkeys_getElem_odd key i (by omega)).trans (oddSubkey_eq_two_mul key i)⟩
  case tables =>
    intro j b
    simp only [State.respond_mkTab, State.respond_sKey, State.commitKey_mkTab]
    rw [mkTables_getFin, mkEntry, hLane, List.length_reverse, sboxKeys_length,
      s.sboxKeys_reverse_eq_commitKey_sKey hdepth]
    rfl
  case frame =>
    rw [State.respond_nil]
    rfl

/-- Settles O20: such a key fails the one check of SCHED, and error entry is all that happens. -/
theorem schedRefusesEveryOtherLength : Obligations.SchedRefusesEveryOtherLength := by
  unfold Obligations.SchedRefusesEveryOtherLength
  intro key s h16 h24 h32
  have hkey : isKey key = false := by
    rw [Bool.eq_false_iff, Ne, isKey_iff]
    tauto
  rw [exec_sched_of_not_isKey hkey, raiseError_eq_failed]
  rfl

end Sys2Proof.Proofs
end

section
/-! SUPPORT. Payloads of one block: their frames, and what a command can answer whose checks are a key and one block. -/

namespace Sys2Proof.Machine

open Sys2Proof.Safety

/-- Rule R49: the payload of a single-block command has 16 bytes. -/
theorem isBlock_iff (inp : List Byte) : isBlock inp = true ↔ inp.length = 16 := by
  simp [isBlock, Config.blockBytes]

/-- Rule R10: block 0 of a payload is its first 16 bytes. -/
theorem blockAt_zero (inp : List Byte) : blockAt inp 0 = blockOf inp := by
  simp [blockAt, blockOf]

/-- Rules R61 and R64: the frame of a one-block payload. -/
theorem frame_of_length_sixteen (low : Byte) {payload : List Byte} (h : payload.length = 16) :
    frame low payload = [low, 0x10, 0x00, 0x00] ++ payload := by
  rw [frame_eq_headerBytes_append, h]
  rfl

/-- Rule R64: a response of one block. -/
theorem State.respond_block (s : State) (st : Byte) (b : Block) :
    s.respond st b.toList = { s with rsp := s.rsp ++ [st, 0x10, 0x00, 0x00] ++ b.toList } := by
  rw [State.respond, frame_of_length_sixteen st b.length_toList, List.append_assoc]

/-- Rules R130 and R136: the three things that ENCB and DECB can do, told apart by the key and the payload's length. -/
theorem singleBlock_answers {r : Result} {inp : List Byte} {s : State} {b : Block}
    (h : (s.keyValid = false ∧ r = raiseError .noKey s) ∨
      (s.keyValid = true ∧ isBlock inp = false ∧ r = raiseError .len s) ∨
      (s.keyValid = true ∧ isBlock inp = true ∧ r = ok b.toList s)) :
    (s.keyValid = true → inp.length = 16 →
      r = .next { s with rsp := s.rsp ++ [0x00, 0x10, 0x00, 0x00] ++ b.toList }) ∧
    (s.keyValid = false → r = .next (failed s 4)) ∧
    (s.keyValid = true → inp.length ≠ 16 → r = .next (failed s 3)) := by
  simp only [Ne, ← isBlock_iff]
  rcases h with ⟨hkey, rfl⟩ | ⟨hkey, hlen, rfl⟩ | ⟨hkey, hlen, rfl⟩
  · simp [hkey, raiseError_eq_failed, ErrorCode.code]
  · simp [hkey, hlen, raiseError_eq_failed, ErrorCode.code]
  · simp [hkey, hlen, ok, State.respond_block]

end Sys2Proof.Machine
end

section
/-! The statements of the family of the single-block commands. -/

namespace Sys2Proof.Proofs

open Sys2Proof.Machine

/-- Settles O26: the frame is that of a one-block payload, and the answers are those of a single-block command whose
block is the encrypted one. -/
theorem encbAnswersTheEncryptedBlock : Obligations.EncbAnswersTheEncryptedBlock := by
  unfold Obligations.EncbAnswersTheEncryptedBlock
  intro inp s
  obtain ⟨hok, hnoKey, hlen⟩ := singleBlock_answers (execEncb_cases inp s)
  rw [blockAt_zero]
  exact ⟨fun hk h16 => ⟨frame_of_length_sixteen 0x02 h16, hok hk h16⟩, hnoKey, hlen⟩

/-- Settles O27: as O26, with the decrypted block. -/
theorem decbAnswersTheDecryptedBlock : Obligations.DecbAnswersTheDecryptedBlock := by
  unfold Obligations.DecbAnswersTheDecryptedBlock
  intro inp s
  obtain ⟨hok, hnoKey, hlen⟩ := singleBlock_answers (execDecb_cases inp s)
  rw [blockAt_zero]
  exact ⟨fun hk h16 => ⟨frame_of_length_sixteen 0x03 h16, hok hk h16⟩, hnoKey, hlen⟩

end Sys2Proof.Proofs
end

section
/-! SUPPORT. Payloads of whole blocks: the blocks of a payload and of a response read by their number, and what a command
can answer whose checks are a key and whole blocks and that maps every block on its own. -/

namespace Sys2Proof.Machine

open Sys2Proof.Safety

/-- Rule R49: the payload of a buffer command is a multiple of 16 bytes. -/
theorem isBuffer_iff (inp : List Byte) : isBuffer inp = true ↔ inp.length % 16 = 0 := by
  simp [isBuffer, Config.blockBytes]

/-- Rule R50: block i of a payload starts 16 i bytes into it. -/
theorem blockAt_eq_blockOf_drop (bs : List Byte) (i : Nat) : blockAt bs i = blockOf (bs.drop (16 * i)) := by
  simp [blockAt, blockOf, List.getD_eq_getElem?_getD]

/-- Rule R50: a payload has LEN/16 blocks. -/
@[simp] theorem payloadBlocks_length (inp : List Byte) : (payloadBlocks inp).length = inp.length / 16 := by
  simp [payloadBlocks, Config.blockBytes]

/-- Rule R50: the blocks of a payload, by their number. -/
theorem payloadBlocks_getElem (inp : List Byte) (i : Nat) (hi : i < (payloadBlocks inp).length) :
    (payloadBlocks inp)[i] = blockAt inp i := by
  rw [blockAt_eq_blockOf_drop]
  exact blocksOf_getElem _ inp i hi

/-- Rule R50: block i of a response made of blocks is the i-th of them. -/
theorem blockAt_joinBlocks (bs : List Block) (i : Nat) (hi : i < bs.length) : blockAt (joinBlocks bs) i = bs[i] := by
  have hbs : blocksOf bs.length (joinBlocks bs) = bs := by simpa using blocksOf_joinBlocks bs []
  rw [blockAt_eq_blockOf_drop, ← blocksOf_getElem bs.length (joinBlocks bs) i (by simpa using hi)]
  simp only [hbs]

/-- Rules R61 and R64: a response is its header, with the length of its payload, and the payload. -/
theorem State.respond_eq_headerBytes (s : State) (st : Byte) (out : List Byte) :
    s.respond st out = { s with rsp := s.rsp ++ headerBytes st out.length ++ out } := by
  rw [State.respond, frame_eq_headerBytes_append, List.append_assoc]

/-- Rule R50: mapping the blocks of whole blocks keeps the number of bytes. -/
theorem joinBlocks_map_payloadBlocks_length (f : Block → Block) {inp : List Byte} (h : inp.length % 16 = 0) :
    (joinBlocks ((payloadBlocks inp).map f)).length = inp.length := by
  rw [joinBlocks_length, List.length_map, payloadBlocks_length]
  omega

/-- Rule R50: a response that maps the blocks of a payload, by their number. -/
theorem blockAt_joinBlocks_map_payloadBlocks (f : Block → Block) {inp : List Byte} {i : Nat} (hi : i < inp.length / 16) :
    blockAt (joinBlocks ((payloadBlocks inp).map f)) i = f (blockAt inp i) := by
  rw [blockAt_joinBlocks _ i (by simpa using hi), List.getElem_map, payloadBlocks_getElem]

/-- Rules R150 and R151: the three things that ECBE and ECBD can do, told apart by the key and the payload's length. -/
theorem ecb_answers {r : Result} {inp : List Byte} {s : State} {f : Block → Block}
    (h : (s.keyValid = false ∧ r = raiseError .noKey s) ∨
      (s.keyValid = true ∧ isBuffer inp = false ∧ r = raiseError .len s) ∨
      (s.keyValid = true ∧ isBuffer inp = true ∧ r = ok (joinBlocks ((payloadBlocks inp).map f)) s)) :
    (s.keyValid = true → inp.length % 16 = 0 →
      ∃ out, r = .next { s with rsp := s.rsp ++ headerBytes 0x00 inp.length ++ out } ∧ out.length = inp.length ∧
        ∀ i, i < inp.length / 16 → blockAt out i = f (blockAt inp i)) ∧
    (s.keyValid = false → r = .next (failed s 4)) ∧
    (s.keyValid = true → inp.length % 16 ≠ 0 → r = .next (failed s 3)) := by
  rcases h with ⟨hkey, rfl⟩ | ⟨hkey, hlen, rfl⟩ | ⟨hkey, hlen, rfl⟩
  · simp [hkey, raiseError_eq_failed, ErrorCode.code]
  · have hragged : inp.length % 16 ≠ 0 := mt (isBuffer_iff inp).mpr (by simp [hlen])
    simp [hkey, hragged, raiseError_eq_failed, ErrorCode.code]
  · have hwhole : inp.length % 16 = 0 := (isBuffer_iff inp).mp hlen
    refine ⟨fun _ _ => ⟨joinBlocks ((payloadBlocks inp).map f), ?_, joinBlocks_map_payloadBlocks_length f hwhole,
      fun i hi => blockAt_joinBlocks_map_payloadBlocks f hi⟩, by simp [hkey], fun _ hne => absurd hwhole hne⟩
    rw [ok, State.respond_eq_headerBytes, joinBlocks_map_payloadBlocks_length f hwhole]

end Sys2Proof.Machine
end

section
/-! The statements of the family of the Electronic Codebook commands. -/

namespace Sys2Proof.Proofs

open Sys2Proof.Machine

/-- Settles O28: the frame is that of every command, and the answers are those of a command that maps every block on its
own, by encryption. -/
theorem ecbeEncryptsBlockByBlock : Obligations.EcbeEncryptsBlockByBlock := by
  unfold Obligations.EcbeEncryptsBlockByBlock
  intro inp s
  obtain ⟨hok, hnoKey, hlen⟩ := ecb_answers (execEcbe_cases inp s)
  exact ⟨fun hk h16 => ⟨frame_eq_headerBytes_append 0x04 inp, hok hk h16⟩, hnoKey, hlen⟩

/-- Settles O29: as O28, by decryption. -/
theorem ecbdDecryptsBlockByBlock : Obligations.EcbdDecryptsBlockByBlock := by
  unfold Obligations.EcbdDecryptsBlockByBlock
  intro inp s
  obtain ⟨hok, hnoKey, hlen⟩ := ecb_answers (execEcbd_cases inp s)
  exact ⟨fun hk h16 => ⟨frame_eq_headerBytes_append 0x05 inp, hok hk h16⟩, hnoKey, hlen⟩

end Sys2Proof.Proofs
end

section
/-! SUPPORT. The two CBC loops block by block, the last block of a payload by its number, and what a command can answer
whose checks are a key, an IV and whole blocks and that leaves a chaining value. -/

namespace Sys2Proof.Machine

open Sys2Proof.Safety

/-- Rule R161: the first block is chained on the value that the loop starts with. -/
theorem cbcEncrypt_getElem_zero (enc : Block → Block) (cv : Block) (ps : List Block) (h : 0 < ps.length) :
    (cbcEncrypt enc cv ps).1[0]'(by simpa using h) = enc (xorBlock ps[0] cv) := by
  cases ps with
  | nil => simp at h
  | cons p ps => rfl

/-- Rule R161: every later block is chained on the ciphertext block just produced. -/
theorem cbcEncrypt_getElem_succ (enc : Block → Block) (cv : Block) (ps : List Block) (i : Nat) (h : i + 1 < ps.length) :
    (cbcEncrypt enc cv ps).1[i + 1]'(by simpa using h) =
      enc (xorBlock ps[i + 1] ((cbcEncrypt enc cv ps).1[i]'(by simp; omega))) := by
  induction ps generalizing cv i with
  | nil => simp at h
  | cons p ps ih =>
    have htail : i < ps.length := by simpa using h
    cases i with
    | zero => exact cbcEncrypt_getElem_zero enc _ ps htail
    | succ i => exact ih _ i htail

/-- Rule R162: the first block is chained on the value that the loop starts with. -/
theorem cbcDecrypt_getElem_zero (dec : Block → Block) (cv : Block) (ys : List Block) (h : 0 < ys.length) :
    (cbcDecrypt dec cv ys).1[0]'(by simpa using h) = xorBlock (dec ys[0]) cv := by
  cases ys with
  | nil => simp at h
  | cons y ys => rfl

/-- Rule R162: every later block is chained on the ciphertext block just consumed. -/
theorem cbcDecrypt_getElem_succ (dec : Block → Block) (cv : Block) (ys : List Block) (i : Nat) (h : i + 1 < ys.length) :
    (cbcDecrypt dec cv ys).1[i + 1]'(by simpa using h) = xorBlock (dec ys[i + 1]) ys[i] := by
  induction ys generalizing cv i with
  | nil => simp at h
  | cons y ys ih =>
    have htail : i < ys.length := by simpa using h
    cases i with
    | zero => exact cbcDecrypt_getElem_zero dec y ys htail
    | succ i => exact ih y i htail

/-- Rule R50: the blocks of a payload of whole blocks are its bytes. -/
theorem joinBlocks_payloadBlocks {inp : List Byte} (h : inp.length % 16 = 0) : joinBlocks (payloadBlocks inp) = inp :=
  joinBlocks_blocksOf _ (by rw [Config.blockBytes]; omega)

/-- Rule R50: as many blocks as a payload of whole blocks has are as many bytes. -/
theorem joinBlocks_length_of_blocks {bs : List Block} {inp : List Byte} (hbs : bs.length = inp.length / 16)
    (h : inp.length % 16 = 0) : (joinBlocks bs).length = inp.length := by
  rw [joinBlocks_length, hbs]
  omega

/-- Rules R161 and R162: the last of some blocks by its number in their bytes, or the default where there is none. -/
theorem getLastD_eq_blockAt_joinBlocks (bs : List Block) (cv : Block) :
    bs.getLastD cv =
      if (joinBlocks bs).length = 0 then cv else blockAt (joinBlocks bs) ((joinBlocks bs).length / 16 - 1) := by
  rcases List.eq_nil_or_concat bs with rfl | ⟨init, b, rfl⟩
  · rfl
  · have hlast : blockAt (joinBlocks (init ++ [b])) init.length = b := by
      rw [blockAt_joinBlocks _ _ (by simp), List.getElem_concat_length rfl]
    simp [-joinBlocks_append, -joinBlocks_cons, hlast]

/-- Rules R161 and R162: the four things that CBCE and CBCD can do, told apart by the key, the IV and the payload's
length. -/
theorem cbc_answers {r : Result} {inp : List Byte} {s : State} {bs : List Block} {cv : Block}
    (hbs : bs.length = inp.length / 16)
    (h : (s.keyValid = false ∧ r = raiseError .noKey s) ∨
      (s.keyValid = true ∧ s.ivValid = false ∧ r = raiseError .noIv s) ∨
      (s.keyValid = true ∧ s.ivValid = true ∧ isBuffer inp = false ∧ r = raiseError .len s) ∨
      (s.keyValid = true ∧ s.ivValid = true ∧ isBuffer inp = true ∧ r = ok (joinBlocks bs) (s.setCv cv))) :
    (s.keyValid = true → s.ivValid = true → inp.length % 16 = 0 →
      r = .next { s with cv := cv, rsp := s.rsp ++ headerBytes 0x00 inp.length ++ joinBlocks bs }) ∧
    (s.keyValid = false → r = .next (failed s 4)) ∧
    (s.keyValid = true → s.ivValid = false → r = .next (failed s 5)) ∧
    (s.keyValid = true → s.ivValid = true → inp.length % 16 ≠ 0 → r = .next (failed s 3)) := by
  simp only [Ne, ← isBuffer_iff]
  rcases h with ⟨hkey, rfl⟩ | ⟨hkey, hiv, rfl⟩ | ⟨hkey, hiv, hlen, rfl⟩ | ⟨hkey, hiv, hlen, rfl⟩
  · simp [hkey, raiseError_eq_failed, ErrorCode.code]
  · simp [hkey, hiv, raiseError_eq_failed, ErrorCode.code]
  · simp [hkey, hiv, hlen, raiseError_eq_failed, ErrorCode.code]
  · have hbytes := joinBlocks_length_of_blocks hbs ((isBuffer_iff inp).mp hlen)
    simp [hkey, hiv, hlen, ok, State.respond_eq_headerBytes, -joinBlocks_length, hbytes, State.setCv]

/-- Rule R160: the three things that CBCI can do, told apart by the key and the IV's length. -/
theorem cbci_answers (iv : List Byte) (s : State) :
    (s.keyValid = true → iv.length = 16 →
      exec (.cbci iv) s =
        .next { s with cv := blockOf iv, ivValid := true, rsp := s.rsp ++ [0x00, 0x00, 0x00, 0x00] }) ∧
    (s.keyValid = false → exec (.cbci iv) s = .next (failed s 4)) ∧
    (s.keyValid = true → iv.length ≠ 16 → exec (.cbci iv) s = .next (failed s 3)) := by
  simp only [Ne, ← isBlock_iff, exec]
  rcases execCbci_cases iv s with ⟨hkey, h⟩ | ⟨hkey, hlen, h⟩ | ⟨hkey, hlen, h⟩
  · simp [h, hkey, raiseError_eq_failed, ErrorCode.code]
  · simp [h, hkey, hlen, raiseError_eq_failed, ErrorCode.code]
  · simp [h, hkey, hlen, ok, State.respond_nil, State.loadIv]

end Sys2Proof.Machine
end

section
/-! The statements of the family of the Cipher Block Chaining commands. -/

namespace Sys2Proof.Proofs

open Sys2Proof.Machine

/-- Settles O31: the answers are those of a CBC command, the blocks are those of the encrypting loop, and the chaining
value is the last block of its output. -/
theorem cbceChainsOnTheCiphertextProduced : Obligations.CbceChainsOnTheCiphertextProduced := by
  unfold Obligations.CbceChainsOnTheCiphertextProduced
  intro inp s
  have hblocks : (cbcEncrypt s.enc s.cv (payloadBlocks inp)).1.length = inp.length / 16 := by simp
  obtain ⟨hok, hnoKey, hnoIv, hlen⟩ := cbc_answers hblocks (execCbce_cases inp s)
  refine ⟨fun hk hi h16 => ⟨frame_eq_headerBytes_append 0x07 inp, _, _, hok hk hi h16,
    joinBlocks_length_of_blocks hblocks h16, fun h0 => ?first, fun i h => ?later, ?left⟩, hnoKey, hnoIv, hlen⟩
  case first =>
    rw [blockAt_joinBlocks _ 0 (by omega), cbcEncrypt_getElem_zero _ _ _ (by simpa using h0), payloadBlocks_getElem]
    rfl
  case later =>
    rw [blockAt_joinBlocks _ (i + 1) (by omega), blockAt_joinBlocks _ i (by omega),
      cbcEncrypt_getElem_succ _ _ _ i (by simpa using h), payloadBlocks_getElem]
    rfl
  case left =>
    rw [cbcEncrypt_cv, getLastD_eq_blockAt_joinBlocks, joinBlocks_length_of_blocks hblocks h16]

/-- Settles O32: as O31 with the decrypting loop, and the chaining value is the last block of its input. -/
theorem cbcdChainsOnTheCiphertextConsumed : Obligations.CbcdChainsOnTheCiphertextConsumed := by
  unfold Obligations.CbcdChainsOnTheCiphertextConsumed
  intro inp s
  have hblocks : (cbcDecrypt s.dec s.cv (payloadBlocks inp)).1.length = inp.length / 16 := by simp
  obtain ⟨hok, hnoKey, hnoIv, hlen⟩ := cbc_answers hblocks (execCbcd_cases inp s)
  refine ⟨fun hk hi h16 => ⟨frame_eq_headerBytes_append 0x08 inp, _, _, hok hk hi h16,
    joinBlocks_length_of_blocks hblocks h16, fun h0 => ?first, fun i h => ?later, ?left⟩, hnoKey, hnoIv, hlen⟩
  case first =>
    rw [blockAt_joinBlocks _ 0 (by omega), cbcDecrypt_getElem_zero _ _ _ (by simpa using h0), payloadBlocks_getElem]
    rfl
  case later =>
    rw [blockAt_joinBlocks _ (i + 1) (by omega), cbcDecrypt_getElem_succ _ _ _ i (by simpa using h),
      payloadBlocks_getElem, payloadBlocks_getElem]
    rfl
  case left =>
    rw [cbcDecrypt_cv, getLastD_eq_blockAt_joinBlocks, joinBlocks_payloadBlocks h16]

/-- Settles O30: the frame is that of a one-block payload, and the chaining value loaded is the payload as a block. -/
theorem cbciLoadsTheIv : Obligations.CbciLoadsTheIv := by
  unfold Obligations.CbciLoadsTheIv
  intro iv s
  obtain ⟨hok, hnoKey, hlen⟩ := cbci_answers iv s
  exact ⟨fun hk h16 => ⟨frame_of_length_sixteen 0x06 h16, blockOf iv, blockOf_toList h16, hok hk h16⟩, hnoKey, hlen⟩

end Sys2Proof.Proofs
end

section
/-! SUPPORT. The bytes of the status word, and the two answers of STAT. -/

namespace Sys2Proof.Machine

open Sys2Proof.Safety

/-- No bit of a flag's word above bit 0 is set. -/
theorem flagWord_getLsbD_succ (b : Bool) (i : Nat) : (flagWord b).getLsbD (i + 1) = false := by
  cases b <;> simp [flagWord]

/-- Rule R29: the bits of the status word above the field `LAST_ERR` read as 0. -/
theorem statusWord_getLsbD_of_ge (s : State) {i : Nat} (hi : 11 ≤ i) : (statusWord s).getLsbD i = false := by
  obtain ⟨j, rfl⟩ := Nat.exists_eq_add_of_le' hi
  simp [statusWord, flagWord_getLsbD_succ]

/-- Rule R29: a byte of the status word above its two low bytes is 0. -/
theorem byteN_statusWord_of_two_le (s : State) {n : Nat} (hn : 2 ≤ n) : byteN (statusWord s) n = 0 := by
  apply BitVec.eq_of_getLsbD_eq
  intro i hi
  rw [byteN_getLsbD, statusWord_getLsbD_of_ge s (by omega)]
  simp

/-- Rules R29 and R180: the status word as STAT answers it. -/
theorem wordBytes_statusWord (s : State) :
    wordBytes (statusWord s) =
      [(statusWord s).extractLsb' 0 8, (statusWord s).extractLsb' 8 8, 0x00, 0x00] := by
  rw [wordBytes, byteN_statusWord_of_two_le s (n := 2) (by decide), byteN_statusWord_of_two_le s (n := 3) (by decide)]
  rfl

/-- Rule R49: an empty payload has no bytes. -/
theorem isEmptyPayload_iff (inp : List Byte) : isEmptyPayload inp = true ↔ inp.length = 0 := by
  simp [isEmptyPayload]

/-- Rule R180: the two things that STAT can do, told apart by the payload's length. -/
theorem stat_answers (inp : List Byte) (s : State) :
    (inp.length = 0 → exec (.stat inp) s =
      .next { s with rsp := s.rsp ++ headerBytes 0x00 4 ++ wordBytes (statusWord s) }) ∧
    (inp.length ≠ 0 → exec (.stat inp) s = .next (failed s 3)) := by
  simp only [Ne, ← isEmptyPayload_iff, exec]
  rcases execStat_cases inp s with ⟨hlen, h⟩ | ⟨hlen, h⟩
  · simp [h, hlen, ok, State.respond_eq_headerBytes, wordBytes]
  · simp [h, hlen, raiseError_eq_failed, ErrorCode.code]

end Sys2Proof.Machine
end

section
/-! The statement of the family of the system command. -/

namespace Sys2Proof.Proofs

open Sys2Proof.Machine

/-- Settles O33: the frame is that of an empty payload, and the four response bytes are those of the status word, whose
two high bytes are 0. -/
theorem statAnswersTheStatusWord : Obligations.StatAnswersTheStatusWord := by
  unfold Obligations.StatAnswersTheStatusWord
  intro inp s
  obtain ⟨-, hlen⟩ := stat_answers inp s
  obtain ⟨hok, -⟩ := stat_answers [] s
  refine ⟨frame_nil 0x09, ?_, hlen⟩
  rw [hok rfl, wordBytes_statusWord, List.append_assoc]
  rfl

end Sys2Proof.Proofs
end

section
/-! SUPPORT. The decoder on a reserved frame, the two steps that execute a frame, and the answer to each failing check of
rule R206, whatever the command. -/

namespace Sys2Proof

/-- Rules R63 and R66: a frame with a reserved opcode is taken whole and rejected by name. -/
theorem decode_frame_append_of_reserved {opc : Byte} {inp : List Byte} (rest : List Byte)
    (hopc : opc.toNat = 0 ∨ 10 ≤ opc.toNat) (hlen : inp.length ≤ Config.maxLen) :
    decode (frame opc inp ++ rest) = .reserved opc rest := by
  have hnone : commandOf opc inp = none := (commandOf_eq_none_iff opc inp).mpr hopc
  simp [decode, splitFrame_frame_append opc rest hlen, hnone]

end Sys2Proof

namespace Sys2Proof.Machine

open Sys2Proof.Safety

variable {s : State} {i : Instr}

/-- Rule R42: the step of a decoded command is its meaning in the state with the frame taken. -/
theorem step_of_decode_command {rest : List Byte} (hr : s.rst = false) (hd : decode s.cmd = .command i rest) :
    step s = exec i (s.takeFrame rest) := by
  simp [step, hr, hd]

/-- Rules R66 and R201: the step of a reserved opcode raises E_BADOP in the state with the frame taken. -/
theorem step_of_decode_reserved {opc : Byte} {rest : List Byte} (hr : s.rst = false)
    (hd : decode s.cmd = .reserved opc rest) : step s = raiseError .badOp (s.takeFrame rest) := by
  simp [step, hr, hd, reservedStep]

/-- Rules R204 and R206: check 2 is the first one of every command that needs the scheduled cipher. -/
theorem exec_of_noKey (hneeds : needsKey i = true) (hkey : s.keyValid = false) : exec i s = raiseError .noKey s := by
  cases i with
  | sched | stat => cases hneeds
  | encb inp => simpa [exec, hkey] using execEncb_cases inp s
  | decb inp => simpa [exec, hkey] using execDecb_cases inp s
  | ecbe inp => simpa [exec, hkey] using execEcbe_cases inp s
  | ecbd inp => simpa [exec, hkey] using execEcbd_cases inp s
  | cbci iv => simpa [exec, hkey] using execCbci_cases iv s
  | cbce inp => simpa [exec, hkey] using execCbce_cases inp s
  | cbcd inp => simpa [exec, hkey] using execCbcd_cases inp s

/-- Rules R205 and R206: check 3 comes after check 2 has passed. -/
theorem exec_of_noIv (hneeds : needsIv i = true) (hkey : s.keyValid = true) (hiv : s.ivValid = false) :
    exec i s = raiseError .noIv s := by
  cases i with
  | sched | encb | decb | ecbe | ecbd | cbci | stat => cases hneeds
  | cbce inp => simpa [exec, hkey, hiv] using execCbce_cases inp s
  | cbcd inp => simpa [exec, hkey, hiv] using execCbcd_cases inp s

/-- A command's length test fails on a length that rule R206 does not allow it. -/
theorem lenTest_eq_false {test : Bool} (hlen : ¬ lenAllowed i) (htest : test = true ↔ lenAllowed i) : test = false :=
  Bool.eq_false_iff.mpr (mt htest.mp hlen)

/-- Rules R202, R203 and R206: check 4 comes after the checks 2 and 3 that the command makes have passed. -/
theorem exec_of_not_lenAllowed (hkey : needsKey i = true → s.keyValid = true)
    (hiv : needsIv i = true → s.ivValid = true) (hlen : ¬ lenAllowed i) : exec i s = raiseError (lenError i) s := by
  cases i with
  | sched key => exact exec_sched_of_not_isKey (lenTest_eq_false hlen (isKey_iff key)) s
  | encb inp => simpa [exec, lenError, hkey rfl, lenTest_eq_false hlen (isBlock_iff inp)] using execEncb_cases inp s
  | decb inp => simpa [exec, lenError, hkey rfl, lenTest_eq_false hlen (isBlock_iff inp)] using execDecb_cases inp s
  | ecbe inp => simpa [exec, lenError, hkey rfl, lenTest_eq_false hlen (isBuffer_iff inp)] using execEcbe_cases inp s
  | ecbd inp => simpa [exec, lenError, hkey rfl, lenTest_eq_false hlen (isBuffer_iff inp)] using execEcbd_cases inp s
  | cbci iv => simpa [exec, lenError, hkey rfl, lenTest_eq_false hlen (isBlock_iff iv)] using execCbci_cases iv s
  | cbce inp => simpa [exec, lenError, hkey rfl, hiv rfl, lenTest_eq_false hlen (isBuffer_iff inp)] using execCbce_cases inp s
  | cbcd inp => simpa [exec, lenError, hkey rfl, hiv rfl, lenTest_eq_false hlen (isBuffer_iff inp)] using execCbcd_cases inp s
  | stat inp => simpa [exec, lenError, lenTest_eq_false hlen (isEmptyPayload_iff inp)] using execStat_cases inp s

/-- Rules R206 and R207: a command whose first failing check is that of `e` enters the error `e`. -/
theorem exec_of_raises {e : ErrorCode} (h : Raises i s e) : exec i s = .next (failed s e.code) := by
  rw [← raiseError_eq_failed]
  cases h with
  | noKey hneeds hkey => exact exec_of_noKey hneeds hkey
  | noIv hneeds hkey hiv => exact exec_of_noIv hneeds hkey hiv
  | len hkey hiv hlen => exact exec_of_not_lenAllowed hkey hiv hlen

end Sys2Proof.Machine
end

section
/-! The statements of the family of the errors. -/

namespace Sys2Proof.Proofs

open Sys2Proof.Machine

/-- Settles O10: the decoder takes the frame and finds no command in it, and the step of a reserved frame is error entry
of E_BADOP. -/
theorem reservedOpcodesAnswerBadOp : Obligations.ReservedOpcodesAnswerBadOp := by
  unfold Obligations.ReservedOpcodesAnswerBadOp
  intro s opc payload rest hopc hlen hr hcmd
  have hd : decode s.cmd = .reserved opc rest := hcmd ▸ decode_frame_append_of_reserved rest hopc hlen
  refine ⟨hd, ?_⟩
  rw [step_of_decode_reserved hr hd, raiseError_eq_failed]
  rfl

/-- Settles O18: the frame decodes to its command, the step is that command's meaning with the frame taken, and there the
command enters the error of its first failing check. -/
theorem errorEntryWritesOnlyTheRecord : Obligations.ErrorEntryWritesOnlyTheRecord := by
  unfold Obligations.ErrorEntryWritesOnlyTheRecord
  refine ⟨⟨rfl, rfl, rfl, rfl, rfl⟩, fun s i rest e hr hwf hcmd hraises => ?_⟩
  rw [step_of_decode_command hr (decode_eq_command_iff.mpr ⟨hwf, hcmd⟩)]
  exact exec_of_raises hraises

end Sys2Proof.Proofs
end

section
/-! SUPPORT. The invariant of rule R38: it rests on the scheduled cipher, on `IV_VALID` and on the error record, and every
write of a command keeps it. -/

namespace Sys2Proof.Safety

open Sys2Proof.Machine

variable {s u : State} {i : Instr}

/-- Rule R65: the error codes go up to 5. -/
theorem errorCode_toNat_le_five (e : ErrorCode) : e.code.toNat ≤ 5 := by
  cases e <;> decide

/-- Rule R38 with another mode state, error record and ports: only the clauses on `IV_VALID` and on the record speak of
them. -/
theorem Inv.with_mode (h : Inv s) {ivValid err rst : Bool} {cv : Block} {lastErr : BitVec 3} {cmd rsp : List Byte}
    (hiv : ivValid = true → s.keyValid = true) (hrecord : err = false ↔ lastErr = 0) (hcode : lastErr.toNat ≤ 5) :
    Inv { s with ivValid := ivValid, cv := cv, err := err, lastErr := lastErr, rst := rst, cmd := cmd, rsp := rsp } where
  noKey := h.noKey
  depth := h.depth
  scheduled hkey := by
    obtain ⟨key, hs⟩ := h.scheduled hkey
    exact ⟨key, hs.length, hs.sKeys, hs.lKeys, hs.tables⟩
  ivNeedsKey := hiv
  noError := hrecord
  lastErr := hcode

/-- Rule R38 does not speak of the ports. -/
theorem Inv.with_ports (h : Inv s) {rst : Bool} {cmd rsp : List Byte} :
    Inv { s with rst := rst, cmd := cmd, rsp := rsp } :=
  h.with_mode h.ivNeedsKey h.noError h.lastErr

/-- Error entry keeps the invariant: it records a code that is not 0. -/
theorem Inv.recordError (h : Inv s) (e : ErrorCode) : Inv (s.recordError e) :=
  h.with_mode h.ivNeedsKey (iff_of_false (by decide) e.code_ne_zero) (errorCode_toNat_le_five e)

/-- Rules R110 and R49: a legal key is 8 bytes for each unit of its depth, which is 2, 3 or 4. -/
theorem keyDepth_cases_of_isKey {key : List Byte} (hk : isKey key = true) :
    key.length = 8 * keyDepth key ∧ (keyDepth key = 2 ∨ keyDepth key = 3 ∨ keyDepth key = 4) := by
  rw [isKey_iff] at hk
  rw [keyDepth]
  omega

/-- Rule R22: `K` as SCHED stores it is the key's depth. -/
theorem commitKey_k_toNat (s : State) {key : List Byte} (hk : isKey key = true) :
    (s.commitKey key).k.toNat = keyDepth key := by
  have h4 := keyDepth_le_four_of_isKey hk
  rw [State.commitKey_k, BitVec.toNat_ofNat]
  omega

/-- Rules R113 to R115: SCHED leaves the scheduled cipher of its key. -/
theorem scheduled_commitKey (s : State) {key : List Byte} (hk : isKey key = true) :
    Scheduled key (s.commitKey key) where
  length := by rw [commitKey_k_toNat s hk, (keyDepth_cases_of_isKey hk).1]
  sKeys j hj := by
    rw [commitKey_k_toNat s hk] at hj
    simp [hj]
  lKeys := rfl
  tables := rfl

/-- SCHED keeps the invariant: `K` is 2, 3 or 4, the stored cipher is the key's, and the CBC stream is closed. -/
theorem Inv.commitKey (h : Inv s) {key : List Byte} (hk : isKey key = true) : Inv (s.commitKey key) := by
  have hdepth : (s.commitKey key).k = 2 ∨ (s.commitKey key).k = 3 ∨ (s.commitKey key).k = 4 := by
    rcases (keyDepth_cases_of_isKey hk).2 with hd | hd | hd <;> simp [hd]
  exact {
    noKey := by rcases hdepth with hd | hd | hd <;> rw [hd] <;> simp
    depth := .inr hdepth
    scheduled := fun _ => ⟨key, scheduled_commitKey s hk⟩
    ivNeedsKey := fun _ => rfl
    noError := h.noError
    lastErr := h.lastErr }

/-- Rule R38: every write that a command makes before it answers OK keeps the invariant. -/
theorem Inv.writes (h : Inv s) (hw : Writes s i u) : Inv u := by
  cases hw with
  | nothing => exact h
  | key hk => exact h.commitKey hk
  | iv hkey _ => exact h.with_mode (fun _ => hkey) h.noError h.lastErr
  | cbce | cbcd => exact h.with_mode h.ivNeedsKey h.noError h.lastErr

/-- Rule R38 at reset: no key, no stream and no error. -/
theorem inv_reset : Inv State.reset where
  noKey := by simp
  depth := by simp
  scheduled := by simp
  ivNeedsKey := by simp
  noError := by simp
  lastErr := by simp

/-- Rule R38: every step keeps the invariant. -/
theorem Inv.of_step {t : State} (h : Inv s) (hstep : step s = .next t) : Inv t := by
  cases hr : s.rst with
  | true =>
    rw [step_of_rst hr] at hstep
    cases hstep
    exact inv_reset
  | false =>
    obtain ⟨rest, ⟨e, rfl⟩ | ⟨i, u, out, hw, rfl⟩⟩ := step_next_cases hr hstep
    · exact (h.with_ports.recordError e).with_ports
    · exact (Inv.writes h.with_ports hw).with_ports

/-- Rule R38: the invariant holds in every reachable state, since it holds at reset, every step keeps it, and it does not
speak of what the host writes. -/
theorem Reachable.inv (h : Reachable s) : Inv s := by
  induction h with
  | reset => exact inv_reset
  | send _ _ ih | take _ _ ih | rst _ ih => exact ih.with_ports
  | step _ hstep ih => exact ih.of_step hstep

end Sys2Proof.Safety
end

section
/-! The statements of the invariant. -/

namespace Sys2Proof.Proofs

open Sys2Proof.Safety

/-- Settles O55: a reset step leaves the reset state; every other step takes a frame and then enters an error or answers
OK after one write, and each of these keeps the invariant. -/
theorem everyStepKeepsTheInvariant : Obligations.EveryStepKeepsTheInvariant := by
  unfold Obligations.EveryStepKeepsTheInvariant
  intro s t h hstep
  exact h.of_step hstep

/-- Settles O56: by induction on the session. -/
theorem invariantHoldsInEveryReachableState : Obligations.InvariantHoldsInEveryReachableState := by
  unfold Obligations.InvariantHoldsInEveryReachableState
  intro s h
  exact h.inv

/-- Settles O54: the reset state has no key, no stream and no error. -/
theorem invariantHoldsAtReset : Obligations.InvariantHoldsAtReset := by
  unfold Obligations.InvariantHoldsAtReset
  exact inv_reset

end Sys2Proof.Proofs
end

section
/-! SUPPORT. What a command does when every check of rule R206 passes, in one equation, and the choice between that and an
error entry. -/

namespace Sys2Proof.Safety

open Sys2Proof.Machine

variable {s t : State} {i : Instr} {e : ErrorCode}

/-- Rule R206: the checks read the two validity bits and no other state. -/
theorem Raises.of_valid_eq (h : Raises i s e) (hkey : s.keyValid = t.keyValid) (hiv : s.ivValid = t.ivValid) :
    Raises i t e := by
  cases h with
  | noKey hneeds hk => exact .noKey hneeds (hkey ▸ hk)
  | noIv hneeds hk hi => exact .noIv hneeds (hkey ▸ hk) (hiv ▸ hi)
  | len hk hi hlen => exact .len (hkey ▸ hk) (hiv ▸ hi) hlen

theorem Passes.of_valid_eq (h : Passes i s) (hkey : s.keyValid = t.keyValid) (hiv : s.ivValid = t.ivValid) :
    Passes i t := by
  obtain ⟨hk, hi, hlen⟩ := h
  exact ⟨hkey ▸ hk, hiv ▸ hi, hlen⟩

end Sys2Proof.Safety

namespace Sys2Proof.Machine

open Sys2Proof.Safety

variable {s t : State} {i : Instr} {e : ErrorCode}

/-- The payload of a command's answer when its checks pass. -/
def okAnswer (i : Instr) (s : State) : List Byte :=
  match i with
  | .sched _ | .cbci _ => []
  | .encb inp => (s.enc (blockOf inp)).toList
  | .decb inp => (s.dec (blockOf inp)).toList
  | .ecbe inp => joinBlocks ((payloadBlocks inp).map s.enc)
  | .ecbd inp => joinBlocks ((payloadBlocks inp).map s.dec)
  | .cbce inp => joinBlocks (cbcEncrypt s.enc s.cv (payloadBlocks inp)).1
  | .cbcd inp => joinBlocks (cbcDecrypt s.dec s.cv (payloadBlocks inp)).1
  | .stat _ => wordBytes (statusWord s)

/-- The state that a command writes, before it answers, when its checks pass. -/
def okWrite (i : Instr) (s : State) : State :=
  match i with
  | .sched key => s.commitKey key
  | .cbci iv => s.loadIv (blockOf iv)
  | .cbce inp => s.setCv (cbcEncrypt s.enc s.cv (payloadBlocks inp)).2
  | .cbcd inp => s.setCv (cbcDecrypt s.dec s.cv (payloadBlocks inp)).2
  | .encb _ | .decb _ | .ecbe _ | .ecbd _ | .stat _ => s

/-- Rules R200 and R206: a command whose checks all pass writes its one update and answers OK. -/
theorem exec_of_passes (h : Passes i s) : exec i s = ok (okAnswer i s) (okWrite i s) := by
  obtain ⟨hkey, hiv, hlen⟩ := h
  cases i with
  | sched key => exact exec_sched_of_isKey ((isKey_iff key).mpr hlen) s
  | encb inp => simpa [exec, okAnswer, okWrite, hkey rfl, (isBlock_iff inp).mpr hlen] using execEncb_cases inp s
  | decb inp => simpa [exec, okAnswer, okWrite, hkey rfl, (isBlock_iff inp).mpr hlen] using execDecb_cases inp s
  | ecbe inp => simpa [exec, okAnswer, okWrite, hkey rfl, (isBuffer_iff inp).mpr hlen] using execEcbe_cases inp s
  | ecbd inp => simpa [exec, okAnswer, okWrite, hkey rfl, (isBuffer_iff inp).mpr hlen] using execEcbd_cases inp s
  | cbci iv => simpa [exec, okAnswer, okWrite, hkey rfl, (isBlock_iff iv).mpr hlen] using execCbci_cases iv s
  | cbce inp => simpa [exec, okAnswer, okWrite, hkey rfl, hiv rfl, (isBuffer_iff inp).mpr hlen] using execCbce_cases inp s
  | cbcd inp => simpa [exec, okAnswer, okWrite, hkey rfl, hiv rfl, (isBuffer_iff inp).mpr hlen] using execCbcd_cases inp s
  | stat inp => simpa [exec, okAnswer, okWrite, (isEmptyPayload_iff inp).mpr hlen] using execStat_cases inp s

/-- Rule R206: a command that makes check 3 makes check 2. -/
theorem needsKey_of_needsIv (h : needsIv i = true) : needsKey i = true := by
  cases i with
  | sched | encb | decb | ecbe | ecbd | cbci | stat => cases h
  | cbce | cbcd => rfl

/-- Rule R206: the checks all pass, or one of them is the first to fail. -/
theorem passes_or_raises (i : Instr) (s : State) : Passes i s ∨ ∃ e, Raises i s e := by
  by_cases hkey : needsKey i = true → s.keyValid = true
  · by_cases hiv : needsIv i = true → s.ivValid = true
    · by_cases hlen : lenAllowed i
      · exact .inl ⟨hkey, hiv, hlen⟩
      · exact .inr ⟨_, .len hkey hiv hlen⟩
    · rw [Classical.not_imp, Bool.not_eq_true] at hiv
      exact .inr ⟨_, .noIv hiv.1 (hkey (needsKey_of_needsIv hiv.1)) hiv.2⟩
  · rw [Classical.not_imp, Bool.not_eq_true] at hkey
    exact .inr ⟨_, .noKey hkey.1 hkey.2⟩

/-- Rule R50: a payload of 16 bytes is one block. -/
theorem payloadBlocks_of_length_sixteen {inp : List Byte} (h : inp.length = 16) : payloadBlocks inp = [blockOf inp] := by
  rw [payloadBlocks, h]
  rfl

/-- What a command writes before it answers OK does not depend on the error record and the ports, and leaves them. -/
theorem okWrite_with_record_ports (i : Instr) (s : State) (err rst : Bool) (lastErr : BitVec 3) (cmd rsp : List Byte) :
    okWrite i { s with err := err, lastErr := lastErr, rst := rst, cmd := cmd, rsp := rsp } =
      { okWrite i s with err := err, lastErr := lastErr, rst := rst, cmd := cmd, rsp := rsp } := by
  cases i <;> rfl

/-- Rule R208: only the answer of STAT depends on the error record. -/
theorem okAnswer_with_record_ports (hi : ∀ x, i ≠ .stat x) (s : State) (err rst : Bool) (lastErr : BitVec 3)
    (cmd rsp : List Byte) :
    okAnswer i { s with err := err, lastErr := lastErr, rst := rst, cmd := cmd, rsp := rsp } = okAnswer i s := by
  cases i with
  | stat x => exact absurd rfl (hi x)
  | sched | encb | decb | ecbe | ecbd | cbci | cbce | cbcd => rfl

@[simp] theorem okWrite_err (i : Instr) (s : State) : (okWrite i s).err = s.err := by cases i <;> rfl
@[simp] theorem okWrite_lastErr (i : Instr) (s : State) : (okWrite i s).lastErr = s.lastErr := by cases i <;> rfl
@[simp] theorem okWrite_rst (i : Instr) (s : State) : (okWrite i s).rst = s.rst := by cases i <;> rfl
@[simp] theorem okWrite_cmd (i : Instr) (s : State) : (okWrite i s).cmd = s.cmd := by cases i <;> rfl
@[simp] theorem okWrite_rsp (i : Instr) (s : State) : (okWrite i s).rsp = s.rsp := by cases i <;> rfl

/-- Rule R208: a command other than STAT, with another error record and other ports before it, answers the same bytes and
writes the same; an error overwrites the record, an OK leaves it. -/
theorem exec_next_with_record_ports (hi : ∀ x, i ≠ .stat x) (h : exec i s = .next t) (err rst : Bool)
    (lastErr : BitVec 3) (cmd rsp : List Byte) :
    ∃ err' lastErr' out, t.rsp = s.rsp ++ out ∧
      exec i { s with err := err, lastErr := lastErr, rst := rst, cmd := cmd, rsp := rsp } =
        .next { t with err := err', lastErr := lastErr', rst := rst, cmd := cmd, rsp := rsp ++ out } := by
  rcases passes_or_raises i s with hpass | ⟨e, hraises⟩
  · rw [exec_of_passes hpass] at h
    cases h
    refine ⟨err, lastErr, frame 0x00 (okAnswer i s), by simp, ?_⟩
    have hpass' : Passes i { s with err := err, lastErr := lastErr, rst := rst, cmd := cmd, rsp := rsp } :=
      hpass.of_valid_eq rfl rfl
    rw [exec_of_passes hpass', okWrite_with_record_ports, okAnswer_with_record_ports hi]
    rfl
  · rw [exec_of_raises hraises] at h
    cases h
    exact ⟨true, e.code, [e.code.setWidth 8, 0x00, 0x00, 0x00], rfl, exec_of_raises (hraises.of_valid_eq rfl rfl)⟩

end Sys2Proof.Machine
end

section
/-! SUPPORT. States that agree on all that is readable (rule R37): every update keeps the agreement, and commands and steps
have the same outcome in them. -/

namespace Sys2Proof.Safety

open Sys2Proof.Machine

variable {s t : State} {i : Instr}

theorem Agree.with_record_ports (h : Agree s t) {err err' : Bool} {lastErr lastErr' : BitVec 3}
    {cmd cmd' rsp rsp' : List Byte} (herr : err = err') (hlast : lastErr = lastErr') (hcmd : cmd = cmd')
    (hrsp : rsp = rsp') :
    Agree { s with err := err, lastErr := lastErr, cmd := cmd, rsp := rsp }
      { t with err := err', lastErr := lastErr', cmd := cmd', rsp := rsp' } where
  keyValid := h.keyValid
  k := h.k
  sKeys := h.sKeys
  lKeys := h.lKeys
  tables := h.tables
  ivValid := h.ivValid
  cv := h.cv
  err := herr
  lastErr := hlast
  rst := h.rst
  cmd := hcmd
  rsp := hrsp

theorem Agree.takeFrame (h : Agree s t) (rest : List Byte) : Agree (s.takeFrame rest) (t.takeFrame rest) :=
  h.with_record_ports h.err h.lastErr rfl h.rsp

theorem Agree.respond (h : Agree s t) (st : Byte) (out : List Byte) : Agree (s.respond st out) (t.respond st out) :=
  h.with_record_ports h.err h.lastErr h.cmd (by rw [h.rsp])

theorem Agree.recordError (h : Agree s t) (e : ErrorCode) : Agree (s.recordError e) (t.recordError e) :=
  h.with_record_ports rfl rfl h.cmd h.rsp

/-- Rule R119: the scheduled cipher of a key is the same whatever was unreadable before. -/
theorem Agree.commitKey (h : Agree s t) (key : List Byte) : Agree (s.commitKey key) (t.commitKey key) where
  keyValid := rfl
  k := rfl
  sKeys _ j hj := by
    have hdepth : j.val < keyDepth key :=
      lt_of_lt_of_le hj (by rw [State.commitKey_k, BitVec.toNat_ofNat]; exact Nat.mod_le _ _)
    simp [hdepth]
  lKeys _ := rfl
  tables _ := rfl
  ivValid := rfl
  cv hiv := by simp at hiv
  err := h.err
  lastErr := h.lastErr
  rst := h.rst
  cmd := h.cmd
  rsp := h.rsp

/-- An equal new chaining value leaves states that agree, be the CBC stream open, opened or closed. -/
theorem Agree.with_mode (h : Agree s t) {cv cv' : Block} {ivValid ivValid' : Bool} (hiv : ivValid = ivValid')
    (hcv : cv = cv') :
    Agree { s with cv := cv, ivValid := ivValid } { t with cv := cv', ivValid := ivValid' } where
  keyValid := h.keyValid
  k := h.k
  sKeys := h.sKeys
  lKeys := h.lKeys
  tables := h.tables
  ivValid := hiv
  cv _ := hcv
  err := h.err
  lastErr := h.lastErr
  rst := h.rst
  cmd := h.cmd
  rsp := h.rsp

theorem Agree.loadIv (h : Agree s t) (iv : Block) : Agree (s.loadIv iv) (t.loadIv iv) := h.with_mode rfl rfl

theorem Agree.setCv (h : Agree s t) {cv cv' : Block} (hcv : cv = cv') : Agree (s.setCv cv) (t.setCv cv') :=
  h.with_mode h.ivValid hcv

/-- With a key, agreeing states encrypt and decrypt alike. -/
theorem Agree.enc_eq (h : Agree s t) (hkey : s.keyValid = true) : s.enc = t.enc := by
  funext b
  rw [State.enc, State.enc, h.lKeys hkey, h.tables hkey]

theorem Agree.dec_eq (h : Agree s t) (hkey : s.keyValid = true) : s.dec = t.dec := by
  funext b
  rw [State.dec, State.dec, h.lKeys hkey, h.tables hkey]

/-- Rule R29: the status word shows readable state only. -/
theorem Agree.statusWord_eq (h : Agree s t) : statusWord s = statusWord t := by
  rw [statusWord, statusWord, h.keyValid, h.ivValid, h.k, h.err, h.lastErr]

/-- A command whose checks pass answers the same in agreeing states: it reads the cipher only with a key, and the chaining
value only with an open stream. -/
theorem Agree.okAnswer_eq (h : Agree s t) (hpass : Passes i s) : okAnswer i s = okAnswer i t := by
  obtain ⟨hkey, hiv, -⟩ := hpass
  cases i with
  | sched | cbci => rfl
  | encb | ecbe => simp only [okAnswer, h.enc_eq (hkey rfl)]
  | decb | ecbd => simp only [okAnswer, h.dec_eq (hkey rfl)]
  | cbce => simp only [okAnswer, h.enc_eq (hkey rfl), h.cv (hiv rfl)]
  | cbcd => simp only [okAnswer, h.dec_eq (hkey rfl), h.cv (hiv rfl)]
  | stat => simp only [okAnswer, h.statusWord_eq]

/-- A command whose checks pass writes agreeing states from agreeing states. -/
theorem Agree.okWrite (h : Agree s t) (hpass : Passes i s) : Agree (okWrite i s) (okWrite i t) := by
  obtain ⟨hkey, hiv, -⟩ := hpass
  cases i with
  | sched key => exact h.commitKey key
  | encb | decb | ecbe | ecbd | stat => exact h
  | cbci iv => exact h.loadIv _
  | cbce => exact h.setCv (by rw [h.enc_eq (hkey rfl), h.cv (hiv rfl)])
  | cbcd => exact h.setCv (by rw [h.dec_eq (hkey rfl), h.cv (hiv rfl)])

theorem Agree.raiseError (h : Agree s t) (e : ErrorCode) : SameOutcome (raiseError e s) (raiseError e t) :=
  (h.recordError e).respond _ _

/-- A command has the same outcome in agreeing states: the checks read the validity bits, which agree. -/
theorem Agree.exec (h : Agree s t) (i : Instr) : SameOutcome (exec i s) (exec i t) := by
  rcases passes_or_raises i s with hpass | ⟨e, hraises⟩
  · rw [exec_of_passes hpass, exec_of_passes (hpass.of_valid_eq h.keyValid h.ivValid), h.okAnswer_eq hpass]
    exact (h.okWrite hpass).respond _ _
  · rw [exec_of_raises hraises, exec_of_raises (hraises.of_valid_eq h.keyValid h.ivValid), ← raiseError_eq_failed,
      ← raiseError_eq_failed]
    exact h.raiseError e

/-- Rules R42 and R242: without a whole frame the step is to wait. -/
theorem step_of_decode_incomplete (hr : s.rst = false) (hd : decode s.cmd = .incomplete) : step s = waitStep s := by
  simp [step, hr, hd]

theorem sameOutcome_waitStep (hcmd : s.cmd = t.cmd) : SameOutcome (waitStep s) (waitStep t) := by
  rw [waitStep, waitStep, hcmd]
  split <;> rfl

theorem agree_refl (s : State) : Agree s s := by
  constructor <;> intros <;> rfl

/-- Rule R37: a step has the same outcome in agreeing states. -/
theorem Agree.step (h : Agree s t) : SameOutcome (step s) (step t) := by
  cases hr : s.rst with
  | true =>
    rw [step_of_rst hr, step_of_rst (h.rst ▸ hr)]
    exact agree_refl _
  | false =>
    have hrt : t.rst = false := h.rst ▸ hr
    cases hd : decode s.cmd with
    | command i rest =>
      rw [step_of_decode_command hr hd, step_of_decode_command hrt (h.cmd ▸ hd)]
      exact (h.takeFrame rest).exec i
    | reserved opc rest =>
      rw [step_of_decode_reserved hr hd, step_of_decode_reserved hrt (h.cmd ▸ hd)]
      exact (h.takeFrame rest).raiseError .badOp
    | incomplete =>
      rw [step_of_decode_incomplete hr hd, step_of_decode_incomplete hrt (h.cmd ▸ hd)]
      exact sameOutcome_waitStep h.cmd

end Sys2Proof.Safety
end

section
/-! The statements of unreadable state, of the checks, and of what one command owes to another. -/

namespace Sys2Proof.Proofs

open Sys2Proof.Machine Sys2Proof.Safety

/-- Settles O57: the decoder and the checks read what agrees, and a command reads the cipher only with a key and the
chaining value only with an open stream. -/
theorem unreadableStateIsNeverRead : Obligations.UnreadableStateIsNeverRead := by
  unfold Obligations.UnreadableStateIsNeverRead
  intro s t h
  exact h.step

/-- Settles O19: the first failing check gives the error; if none fails the command writes its one update, which does not
touch the record, and answers OK. -/
theorem checksDecideEveryAnswer : Obligations.ChecksDecideEveryAnswer := by
  unfold Obligations.ChecksDecideEveryAnswer
  intro i s
  refine ⟨fun e hraises => exec_of_raises hraises, fun hpass => ?_, passes_or_raises i s⟩
  exact ⟨_, okAnswer i s, exec_of_passes hpass, by simp [frame_eq_headerBytes_append], by simp, by simp⟩

/-- Settles O21: the failed command has written the error record and a response only, and no CBC command depends on
them. -/
theorem failedCbcCommandLeavesTheStream : Obligations.FailedCbcCommandLeavesTheStream := by
  unfold Obligations.FailedCbcCommandLeavesTheStream
  intro bad good s t u e _ hgood hraises hbad hu
  rw [exec_of_raises hraises] at hbad
  cases hbad
  have hstat : ∀ x, good ≠ .stat x := by
    obtain ⟨y, rfl | rfl | rfl⟩ := hgood <;> exact fun _ => Instr.noConfusion
  obtain ⟨err, lastErr, out, hrsp, hv⟩ := exec_next_with_record_ports hstat hu s.err s.rst s.lastErr s.cmd s.rsp
  exact ⟨rfl, rfl, _, out, hv, rfl, rfl, rfl, hrsp⟩

/-- Settles O23: no check, update or answer of such a command reads the error record. -/
theorem errorRecordSteersNothing : Obligations.ErrorRecordSteersNothing := by
  unfold Obligations.ErrorRecordSteersNothing
  intro i s t err lastErr hstat h
  obtain ⟨err', lastErr', out, hrsp, hu⟩ := exec_next_with_record_ports hstat h err s.rst lastErr s.cmd s.rsp
  obtain ⟨-, -, -, -, -, hcmd, hrst⟩ := onlyTheNamedWritersWrite i s t h
  exact ⟨_, hu, by rw [← hrsp, ← hcmd, ← hrst]⟩

/-- Settles O25: both states are the key's commit, and an S-box key below `K` is the key's own. -/
theorem schedDependsOnTheKeyAlone : Obligations.SchedDependsOnTheKeyAlone := by
  unfold Obligations.SchedDependsOnTheKeyAlone
  intro key s s' t t' hlen h h'
  have hkey : isKey key = true := (isKey_iff key).mpr hlen
  rw [exec_sched_of_isKey hkey] at h h'
  cases h
  cases h'
  refine ⟨rfl, rfl, rfl, fun j hj => ?_⟩
  have hdepth : j.val < keyDepth key := commitKey_k_toNat s hkey ▸ hj
  simp [hdepth]

/-- Settles O46: both commands need a key, and the blocks of 16 bytes are one block. -/
theorem singleBlockCommandsAreOneBlockEcb : Obligations.SingleBlockCommandsAreOneBlockEcb := by
  unfold Obligations.SingleBlockCommandsAreOneBlockEcb
  intro inp s hlen
  have hmod : inp.length % 16 = 0 := by omega
  have hblocks : payloadBlocks inp = [blockOf inp] := payloadBlocks_of_length_sixteen hlen
  cases hkey : s.keyValid with
  | false =>
    have hnoKey : ∀ i : Instr, needsKey i = true → exec i s = raiseError .noKey s := fun _ h => exec_of_noKey h hkey
    exact ⟨(hnoKey (.encb inp) rfl).trans (hnoKey (.ecbe inp) rfl).symm,
      (hnoKey (.decb inp) rfl).trans (hnoKey (.ecbd inp) rfl).symm⟩
  | true =>
    have hok : ∀ i : Instr, needsIv i = false → lenAllowed i → exec i s = ok (okAnswer i s) (okWrite i s) :=
      fun i hiv h => exec_of_passes ⟨fun _ => hkey, by simp [hiv], h⟩
    rw [hok (.encb inp) rfl hlen, hok (.ecbe inp) rfl hmod, hok (.decb inp) rfl hlen, hok (.ecbd inp) rfl hmod]
    simp [okAnswer, okWrite, hblocks]

/-- Settles O52: SCHED closes the stream, so check 3 is the first of CBCE and CBCD to fail; CBCI makes no check 3. -/
theorem rekeyingClosesTheCbcStream : Obligations.RekeyingClosesTheCbcStream := by
  unfold Obligations.RekeyingClosesTheCbcStream
  intro key x iv s t hlen h
  rw [exec_sched_of_isKey ((isKey_iff key).mpr hlen)] at h
  cases h
  refine ⟨exec_of_raises (.noIv rfl rfl rfl), exec_of_raises (.noIv rfl rfl rfl), fun hiv => ?_⟩
  exact ⟨_, exec_of_passes (i := .cbci iv) ⟨fun _ => rfl, nofun, hiv⟩, rfl⟩

end Sys2Proof.Proofs
end

section
/-! SUPPORT. What a step takes from the command stream and puts on the response stream, and when there is one. -/

namespace Sys2Proof.Machine

open Sys2Proof.Safety

variable {s t : State} {i : Instr}

/-- Rule R65: the status code of an error, as the first byte of its response. -/
theorem errorCode_setWidth_toNat_le_five (e : ErrorCode) : (e.code.setWidth 8).toNat ≤ 5 := by
  cases e <;> decide

/-- Rules R64 and R65: from `s` to `t` one response has been put behind those already there, and an error has no data. -/
def Responds (s t : State) : Prop :=
  ∃ (st : Byte) (out : List Byte), t.rsp = s.rsp ++ frame st out ∧ st.toNat ≤ 5 ∧ (st ≠ 0 → out = [])

theorem responds_of_raiseError {e : ErrorCode} (h : raiseError e s = .next t) : Responds s t := by
  cases h
  exact ⟨e.code.setWidth 8, [], rfl, errorCode_setWidth_toNat_le_five e, fun _ => rfl⟩

/-- Rule R200: every command answers, with one response, and leaves the command stream and the reset request. -/
theorem exec_responds (i : Instr) (s : State) :
    ∃ t, exec i s = .next t ∧ Responds s t ∧ t.cmd = s.cmd ∧ t.rst = s.rst := by
  rcases passes_or_raises i s with hpass | ⟨e, hraises⟩
  · exact ⟨_, exec_of_passes hpass, ⟨0x00, okAnswer i s, by simp, by decide, fun h => absurd rfl h⟩, by simp, by simp⟩
  · have hexec := exec_of_raises hraises
    rw [← raiseError_eq_failed] at hexec
    exact ⟨_, hexec, responds_of_raiseError rfl, rfl, rfl⟩

/-- Rules R42 and R200: with a whole frame at the front of the stream and no reset pending, the step takes that frame and
answers it. -/
theorem step_of_splitFrame {opc : Byte} {inp rest : List Byte} (hr : s.rst = false)
    (hs : splitFrame s.cmd = some (opc, inp, rest)) :
    ∃ t, step s = .next t ∧ Responds s t ∧ t.cmd = rest ∧ t.rst = false := by
  rcases decode_cases s.cmd with ⟨i, opc', rest', hd, hs', -⟩ | ⟨opc', inp', rest', hd, hs', -⟩ | ⟨-, hs'⟩
  · rw [hs] at hs'
    cases hs'
    rw [step_of_decode_command hr hd]
    obtain ⟨t, hexec, hresp, hcmd, hrst⟩ := exec_responds i (s.takeFrame rest)
    exact ⟨t, hexec, hresp, hcmd, hrst.trans hr⟩
  · rw [hs] at hs'
    cases hs'
    rw [step_of_decode_reserved hr hd]
    exact ⟨_, rfl, responds_of_raiseError (s := s.takeFrame rest) rfl, rfl, hr⟩
  · rw [hs] at hs'
    cases hs'

theorem step_of_frame {opc : Byte} {inp rest : List Byte} (hr : s.rst = false) (hlen : inp.length ≤ Config.maxLen)
    (hcmd : s.cmd = frame opc inp ++ rest) : ∃ t, step s = .next t ∧ Responds s t ∧ t.cmd = rest ∧ t.rst = false :=
  step_of_splitFrame hr (hcmd ▸ splitFrame_frame_append opc rest hlen)

/-- Rule R42: the decoder waits where no whole frame can be taken. -/
theorem decode_eq_incomplete_iff {bs : List Byte} : decode bs = .incomplete ↔ splitFrame bs = none := by
  rcases decode_cases bs with ⟨i, opc, rest, hd, hs, -⟩ | ⟨opc, inp, rest, hd, hs, -⟩ | ⟨hd, hs⟩ <;> simp [hd, hs]

/-- Rule R42: without a whole frame there is no next state but the reset state. -/
theorem splitFrame_of_step_next (hr : s.rst = false) (h : step s = .next t) :
    ∃ opc inp rest, splitFrame s.cmd = some (opc, inp, rest) := by
  rcases decode_cases s.cmd with ⟨i, opc, rest, -, hs, -⟩ | ⟨opc, inp, rest, -, hs, -⟩ | ⟨hd, -⟩
  · exact ⟨_, _, _, hs⟩
  · exact ⟨_, _, _, hs⟩
  · rw [step_of_decode_incomplete hr hd, waitStep] at h
    split at h <;> cases h

/-- Rule R42: a proper part from the start of a frame is no whole frame. -/
theorem decode_take_frame {opc : Byte} {inp : List Byte} {n : Nat} (hn : n < 4 + inp.length)
    (hlen : inp.length ≤ Config.maxLen) : decode ((frame opc inp).take n) = .incomplete := by
  have hwhole : splitFrame (frame opc inp) = some (opc, inp, []) := by simpa using splitFrame_frame_append opc [] hlen
  have hnone : splitFrame ((frame opc inp).take n) = none := by
    by_contra hsome
    obtain ⟨⟨opc', inp', rest⟩, hs⟩ := Option.ne_none_iff_exists'.mp hsome
    have hmore := splitFrame_append ((frame opc inp).drop n) hs
    rw [List.take_append_drop, hwhole] at hmore
    simp at hmore
    omega
  exact decode_eq_incomplete_iff.mpr hnone

/-- Rules R63 and R66: the decoder rejects a frame that it takes and whose opcode is no command's. -/
theorem decode_eq_reserved_iff {bs rest : List Byte} {opc : Byte} :
    decode bs = .reserved opc rest ↔ ∃ inp, splitFrame bs = some (opc, inp, rest) ∧ (opc.toNat = 0 ∨ 10 ≤ opc.toNat) := by
  constructor
  · intro h
    rcases decode_cases bs with ⟨i, opc', rest', hd, -⟩ | ⟨opc', inp, rest', hd, hs, hopc⟩ | ⟨hd, -⟩ <;> rw [h] at hd <;>
      cases hd
    exact ⟨inp, hs, hopc⟩
  · rintro ⟨inp, hs, hopc⟩
    simp [decode, hs, (commandOf_eq_none_iff opc inp).mpr hopc]

/-- Rules R51 and R241: bytes further back on the command stream are not seen by a command. -/
theorem exec_hostSend (h : exec i s = .next t) (bs : List Byte) : exec i (s.hostSend bs) = .next (t.hostSend bs) := by
  rcases passes_or_raises i s with hpass | ⟨e, hraises⟩
  · rw [exec_of_passes hpass] at h
    cases h
    have hpass' : Passes i (s.hostSend bs) := hpass.of_valid_eq rfl rfl
    rw [exec_of_passes hpass']
    cases i <;> rfl
  · rw [exec_of_raises hraises] at h
    cases h
    have hraises' : Raises i (s.hostSend bs) e := hraises.of_valid_eq rfl rfl
    rw [exec_of_raises hraises']
    rfl

/-- Rules R51 and R241: bytes further back on the command stream are not seen by a step, which takes a whole frame. -/
theorem step_hostSend (hr : s.rst = false) (h : step s = .next t) (bs : List Byte) :
    step (s.hostSend bs) = .next (t.hostSend bs) := by
  have hr' : (s.hostSend bs).rst = false := hr
  cases hd : decode s.cmd with
  | command i rest =>
    rw [step_of_decode_command hr hd] at h
    have hd' : decode (s.hostSend bs).cmd = .command i (rest ++ bs) :=
      decode_eq_command_iff_splitFrame.mpr (splitFrame_append bs (decode_eq_command_iff_splitFrame.mp hd))
    rw [step_of_decode_command hr' hd']
    exact exec_hostSend h bs
  | reserved opc rest =>
    rw [step_of_decode_reserved hr hd] at h
    cases h
    obtain ⟨inp, hs, hopc⟩ := decode_eq_reserved_iff.mp hd
    have hd' : decode (s.hostSend bs).cmd = .reserved opc (rest ++ bs) :=
      decode_eq_reserved_iff.mpr ⟨inp, splitFrame_append bs hs, hopc⟩
    rw [step_of_decode_reserved hr' hd']
    rfl
  | incomplete =>
    obtain ⟨opc, inp, rest, hs⟩ := splitFrame_of_step_next hr h
    simp [decode_eq_incomplete_iff, hs] at hd

/-- A run of the machine takes its steps one after the other. -/
theorem core_run_succ {n : Nat} (h : step s = .next t) :
    Host.Core.run Sys2Proof.core (n + 1) s = Host.Core.run Sys2Proof.core n t := by
  have hcore : Sys2Proof.core.step s = .next t := h
  simp only [Host.Core.run, hcore]

/-- The stream of some frames, one behind the other. -/
def framesBytes (fs : List (Byte × List Byte)) : List Byte := fs.flatMap fun f => frame f.1 f.2

/-- Rule R242: from an idle core, the frames are all served, and sending them all before the first step changes nothing of
the outcome. -/
theorem serveAll_eq_run {fs : List (Byte × List Byte)} (hr : s.rst = false) (hcmd : s.cmd = [])
    (hlen : ∀ f ∈ fs, f.2.length ≤ Config.maxLen) :
    ∃ t, serveAll (fs.map fun f => frame f.1 f.2) s = .next t ∧ t.cmd = [] ∧ t.rst = false ∧
      Host.Core.run Sys2Proof.core fs.length (s.hostSend (framesBytes fs)) = .next t := by
  induction fs generalizing s with
  | nil => exact ⟨s, rfl, hcmd, hr, by simp [Host.Core.run, framesBytes, State.hostSend]⟩
  | cons f fs ih =>
    have hfront : (s.hostSend (frame f.1 f.2)).cmd = frame f.1 f.2 ++ [] := by simp [hcmd]
    obtain ⟨u, hstep, -, hucmd, hur⟩ := step_of_frame (s := s.hostSend (frame f.1 f.2)) hr (hlen f (by simp)) hfront
    obtain ⟨t, hserve, htcmd, htr, hrun⟩ := ih hur hucmd fun g hg => hlen g (by simp [hg])
    have hahead : step (s.hostSend (framesBytes (f :: fs))) = .next (u.hostSend (framesBytes fs)) := by
      have hmore := step_hostSend (s := s.hostSend (frame f.1 f.2)) hr hstep (framesBytes fs)
      simpa [State.hostSend, framesBytes, List.append_assoc] using hmore
    refine ⟨t, ?_, htcmd, htr, ?_⟩
    · simp [serveAll, serve, hstep, hserve]
    · exact (core_run_succ hahead).trans hrun

end Sys2Proof.Machine
end

section
/-! The statements of the frames and of the step. -/

namespace Sys2Proof.Proofs

open Sys2Proof.Machine Sys2Proof.Safety

/-- Settles O3: the header word's stream bytes. -/
theorem frameBytesAreHeaderThenPayload : Obligations.FrameBytesAreHeaderThenPayload := by
  unfold Obligations.FrameBytesAreHeaderThenPayload
  exact frame_eq_headerBytes_append

/-- Settles O6: a frame in front of a stream is taken whole, for the host as for the core. -/
theorem responseFrameReadsBack : Obligations.ResponseFrameReadsBack := by
  unfold Obligations.ResponseFrameReadsBack
  intro st out rest hlen
  exact splitFrame_frame_append st rest hlen

/-- Settles O5: the decoder evaluated on each of the eleven streams. -/
theorem writtenOutFramesDecode : Obligations.WrittenOutFramesDecode := by
  unfold Obligations.WrittenOutFramesDecode
  decide

/-- Settles O9: the stream decodes to the command whose frame it starts with. -/
theorem stepExecutesTheDecodedCommand : Obligations.StepExecutesTheDecodedCommand := by
  unfold Obligations.StepExecutesTheDecodedCommand
  intro s i rest hr hwf hcmd
  exact step_of_decode_command hr (decode_eq_command_iff.mpr ⟨hwf, hcmd⟩)

/-- Settles O11: no frame can be taken from the first `n` bytes of one, so the step is to wait, and these are no bytes only
for `n = 0`. -/
theorem partOfAFrameHasNoStep : Obligations.PartOfAFrameHasNoStep := by
  unfold Obligations.PartOfAFrameHasNoStep
  intro s opc payload n hlen hn hr hcmd
  rw [step_of_decode_incomplete hr (hcmd ▸ decode_take_frame hn hlen), waitStep, hcmd]
  simp only [List.isEmpty_iff, List.take_eq_nil_iff, frame_ne_nil, or_false]
  split <;> rfl

/-- Settles O12: a reset step is always possible, and otherwise the frame is served. -/
theorem stepIsPossibleWhenAWholeFrameWaits : Obligations.StepIsPossibleWhenAWholeFrameWaits := by
  unfold Obligations.StepIsPossibleWhenAWholeFrameWaits
  intro s opc payload rest hlen hcmd
  cases hr : s.rst with
  | true => exact ⟨_, step_of_rst hr⟩
  | false =>
    obtain ⟨t, hstep, -⟩ := step_of_frame hr hlen hcmd
    exact ⟨t, hstep⟩

/-- Settles O13: a step that answers a next state had a whole frame to take, and serving it puts one response. -/
theorem oneResponsePerFrame : Obligations.OneResponsePerFrame := by
  unfold Obligations.OneResponsePerFrame
  intro s t hr h
  obtain ⟨opc, inp, rest, hs⟩ := splitFrame_of_step_next hr h
  obtain ⟨t', hstep, hresp, hrest, -⟩ := step_of_splitFrame hr hs
  rw [h] at hstep
  cases hstep
  exact ⟨⟨opc, inp, hrest ▸ splitFrame_eq_some_iff.mp hs⟩, hresp⟩

/-- Settles O14: the step takes the frame at the front, and its meaning does not see the command stream. -/
theorem sendingAheadChangesNothing : Obligations.SendingAheadChangesNothing := by
  unfold Obligations.SendingAheadChangesNothing
  intro s t bs hr h
  exact step_hostSend hr h bs

/-- Settles O15: by induction on the frames, each of which leaves an idle core. -/
theorem runIsTheFoldOverFrames : Obligations.RunIsTheFoldOverFrames := by
  unfold Obligations.RunIsTheFoldOverFrames
  intro s fs hr hcmd hlen
  exact serveAll_eq_run hr hcmd hlen

/-- Settles O16: the host's request is pending, so the next step is the reset. -/
theorem resetStepLeavesTheResetState : Obligations.ResetStepLeavesTheResetState := by
  unfold Obligations.ResetStepLeavesTheResetState
  intro s
  exact step_of_rst s.hostReset_rst

/-- Settles O17: the reset state field by field. -/
theorem resetStateAsTheSpecGivesIt : Obligations.ResetStateAsTheSpecGivesIt := by
  unfold Obligations.ResetStateAsTheSpecGivesIt
  exact ⟨rfl, rfl, rfl, rfl, rfl, by decide, rfl, rfl, rfl⟩

end Sys2Proof.Proofs
end

section
/-! SUPPORT. The bits of the status word (rule R29), the table forms of h and g (rules R96 and R135), and the tables of
`49_table_listings.md`. -/

namespace Sys2Proof.Machine

theorem flagWord_getLsbD (b : Bool) (i : Nat) : (flagWord b).getLsbD i = (decide (i = 0) && b) := by
  cases i with
  | zero => cases b <;> rfl
  | succ i => simp [flagWord_getLsbD_succ]

/-- Rule R29: the status word bit by bit. -/
theorem statusWord_getLsbD (s : State) {i : Nat} (hi : i < 32) :
    (statusWord s).getLsbD i =
      ((decide (i = 0) && s.keyValid) || (decide (i = 1) && s.ivValid) || (decide (2 ≤ i) && s.k.getLsbD (i - 2)) ||
        (decide (i = 7) && s.err) || (decide (8 ≤ i) && s.lastErr.getLsbD (i - 8))) := by
  simp only [statusWord, BitVec.getLsbD_or, BitVec.getLsbD_shiftLeft, BitVec.getLsbD_setWidth, flagWord_getLsbD]
  grind

end Sys2Proof.Machine

namespace Sys2Proof

/-- Rules R88 and R94: the MDS product of four layer-0 lookups is the sum of one column for each lane. -/
theorem h_eq_hTables (x : Word) (l : List Word) : h x l = hTables x l := by
  simp only [h, hTables, mdsMul, mdsByte, mAt, hByte, le32_xor]
  rfl

/-- Rules R115 and R135: g by the tables of some S-box keys is h over these keys in reverse order. -/
theorem gTab_mkTables (sKeys : List Word) (x : Word) : gTab (mkTables sKeys) x = h x sKeys.reverse := by
  have hentry (j : Fin 4) (b : Byte) : (mkTables sKeys)[j][b.toFin] = mAt j (hLane j sKeys.reverse b) :=
    mkTables_getFin sKeys j b.toFin
  rw [h_eq_hTables, hTables, ← hentry, ← hentry, ← hentry, ← hentry]
  rfl

theorem rol32_eight_getLsbD (w : Word) (i : Nat) :
    (rol32 w 8).getLsbD i = if i < 8 then w.getLsbD (24 + i) else (decide (i < 32) && w.getLsbD (i - 8)) := by
  simp only [rol32, BitVec.getLsbD_or, BitVec.getLsbD_shiftLeft, BitVec.getLsbD_ushiftRight]
  split
  · simp [*]
  · simp [*, BitVec.getLsbD_of_ge w (24 + i) (by omega)]

/-- Rule R8: rotating a word left by 8 moves its top byte to the bottom. -/
theorem byteN_rol32_eight_zero (w : Word) : byteN (rol32 w 8) 0 = byteN w 3 := by
  apply BitVec.eq_of_getLsbD_eq
  intro i hi
  rw [byteN_getLsbD, byteN_getLsbD, rol32_eight_getLsbD]
  simp [hi]

/-- Rule R8: rotating a word left by 8 moves its other bytes one place up. -/
theorem byteN_rol32_eight_succ (w : Word) {n : Nat} (hn : n < 3) : byteN (rol32 w 8) (n + 1) = byteN w n := by
  apply BitVec.eq_of_getLsbD_eq
  intro i hi
  rw [byteN_getLsbD, byteN_getLsbD, rol32_eight_getLsbD]
  simp [show ¬ 8 * (n + 1) + i < 8 by omega, show 8 * (n + 1) + i < 32 by omega,
    show 8 * (n + 1) + i - 8 = 8 * n + i by omega]

/-- Rules R190 and R191: the listing of a q-table. -/
def qListing : QName → List Byte
  | .q0 => q0Listing
  | .q1 => q1Listing

/-- Rules R190 and R191: a q-table's entries are the listed ones. -/
theorem qAt_eq_qListing_getD (n : QName) : ∀ x : Byte, qAt n x = (qListing n).getD x.toNat 0 := by
  cases n <;> decide +kernel

theorem qListing_length (n : QName) : (qListing n).length = 256 := by
  cases n <;> decide +kernel

/-- Rule R86: every byte stands in the listing of each q-table. -/
theorem mem_qListing (n : QName) (y : Byte) : y ∈ qListing n := by
  have hnumbers : ∀ k ∈ List.range 256, k ∈ (qListing n).map BitVec.toNat := by cases n <;> decide +kernel
  obtain ⟨b, hb, heq⟩ := List.mem_map.mp (hnumbers y.toNat (List.mem_range.mpr y.isLt))
  exact BitVec.eq_of_toNat_eq heq ▸ hb

/-- Rule R86: a q-table is a permutation of the bytes. -/
theorem qAt_bijective (n : QName) : Function.Bijective (qAt n) := by
  have hsurj : Function.Surjective (qAt n) := by
    intro y
    obtain ⟨i, hi, rfl⟩ := List.getElem_of_mem (mem_qListing n y)
    have hi256 : i < 2 ^ 8 := lt_of_lt_of_eq hi (qListing_length n)
    refine ⟨BitVec.ofNat 8 i, ?_⟩
    rw [qAt_eq_qListing_getD, BitVec.toNat_ofNat, Nat.mod_eq_of_lt hi256, List.getD_eq_getElem _ _ hi]
  exact ⟨Finite.injective_iff_surjective.mpr hsurj, hsurj⟩

/-- Rules R192 to R195: an m-table's entries are the listed ones. -/
theorem mAt_eq_mListing_getD : ∀ (j : Fin 4) (b : Byte), mAt j b = (mListing j).getD b.toNat 0 := by decide +kernel

theorem mListing_length : ∀ j : Fin 4, (mListing j).length = 256 := by decide +kernel

end Sys2Proof

namespace Sys2Proof.Safety

/-- Rule R24: below `K` the stored S-box keys are the key's, in index order. -/
theorem Scheduled.sKey_take {key : List Byte} {s : Machine.State} (h : Scheduled key s) (h4 : s.k.toNat ≤ 4) :
    s.sKey.toList.take s.k.toNat = sboxKeys key := by
  have hdepth : keyDepth key = s.k.toNat := by
    rw [keyDepth, h.length]
    omega
  apply List.ext_getElem
  · simp [hdepth, h4]
  · intro i hi _
    have hik : i < s.k.toNat := by simp at hi; omega
    simpa [sboxKeys] using h.sKeys ⟨i, by omega⟩ hik

end Sys2Proof.Safety
end

section
/-! The statements of the status word and of the primitives' tables. -/

namespace Sys2Proof.Proofs

open Sys2Proof.Machine Sys2Proof.Safety

/-- Settles O34: each field bit by bit; the terms of the other fields have no bit there. -/
theorem statusFieldsStandWhereTheSpecPutsThem : Obligations.StatusFieldsStandWhereTheSpecPutsThem := by
  unfold Obligations.StatusFieldsStandWhereTheSpecPutsThem
  intro s
  refine ⟨?keyValid, ?ivValid, BitVec.eq_of_getLsbD_eq fun i hi => ?k, BitVec.eq_of_getLsbD_eq fun i hi => ?low, ?err,
    BitVec.eq_of_getLsbD_eq fun i hi => ?lastErr, BitVec.eq_of_getLsbD_eq fun i hi => ?high⟩
  case keyValid | ivValid | err =>
    rw [statusWord_getLsbD s (by decide)]
    simp
  case k =>
    rw [BitVec.getLsbD_extractLsb', statusWord_getLsbD s (by omega)]
    simp [hi, show ¬ 2 + i = 1 by omega, show ¬ 2 + i = 7 by omega, show ¬ 8 ≤ 2 + i by omega]
  case low =>
    rw [BitVec.getLsbD_extractLsb', statusWord_getLsbD s (by omega)]
    simp [show ¬ 5 + i = 1 by omega, show ¬ 5 + i = 7 by omega, show ¬ 8 ≤ 5 + i by omega,
      BitVec.getLsbD_of_ge s.k (5 + i - 2) (by omega)]
  case lastErr =>
    rw [BitVec.getLsbD_extractLsb', statusWord_getLsbD s (by omega)]
    simp [hi, show ¬ 8 + i = 1 by omega, show ¬ 8 + i = 7 by omega, BitVec.getLsbD_of_ge s.k (8 + i - 2) (by omega)]
  case high =>
    rw [BitVec.getLsbD_extractLsb', statusWord_getLsbD_of_ge s (by omega)]
    simp

/-- Settles O40: the exclusive or of the four columns of the MDS product. -/
theorem hIsTheXorOfFourMTableEntries : Obligations.HIsTheXorOfFourMTableEntries := by
  unfold Obligations.HIsTheXorOfFourMTableEntries
  exact h_eq_hTables

/-- Settles O41: the tables are those of the key's S-box keys, which are the stored ones; and the rotation moves the bytes
one place up. -/
theorem datapathGIsHOverReversedSboxKeys : Obligations.DatapathGIsHOverReversedSboxKeys := by
  unfold Obligations.DatapathGIsHOverReversedSboxKeys
  intro s key x hs h4
  constructor
  · rw [hs.tables, gTab_mkTables, hs.sKey_take h4]
  · have h0 : byteN (rol32 x 8) 0 = byteN x 3 := byteN_rol32_eight_zero x
    have h1 : byteN (rol32 x 8) 1 = byteN x 0 := byteN_rol32_eight_succ x (by decide)
    have h2 : byteN (rol32 x 8) 2 = byteN x 1 := byteN_rol32_eight_succ x (by decide)
    have h3 : byteN (rol32 x 8) 3 = byteN x 2 := byteN_rol32_eight_succ x (by decide)
    simp only [gTab, h0, h1, h2, h3]

/-- Settles O36: the listings entry by entry, and each of them holds every byte. -/
theorem qTablesAreTheListedPermutations : Obligations.QTablesAreTheListedPermutations := by
  unfold Obligations.QTablesAreTheListedPermutations
  exact ⟨fun x => ⟨qAt_eq_qListing_getD .q0 x, qAt_eq_qListing_getD .q1 x⟩, qAt_bijective⟩

/-- Settles O37: the listings entry by entry. -/
theorem mTablesAreTheListedOnes : Obligations.MTablesAreTheListedOnes := by
  unfold Obligations.MTablesAreTheListedOnes
  exact fun j b => ⟨mListing_length j, mAt_eq_mListing_getD j b⟩

end Sys2Proof.Proofs
end

section
/-! SUPPORT. Encryption and decryption undo each other round by round (rules R138 and R139), and two rounds are one cycle of
the cycle forms (rules R134 and R138). -/

namespace Sys2Proof

variable (lk : Vector Word 40) (mk : Vector (Vector Word 256) 4)

/-- Rule R138: a decryption round undoes the encryption round of the same number. -/
theorem decRound_encRound (r : Fin 16) (q : Quad) : decRound lk mk r (encRound lk mk r q) = q := by
  simp [decRound, encRound]

/-- Rule R138: an encryption round undoes the decryption round of the same number. -/
theorem encRound_decRound (r : Fin 16) (q : Quad) : encRound lk mk r (decRound lk mk r q) = q := by
  simp [decRound, encRound]

/-- Steps undone one by one in reverse order. -/
theorem foldl_reverse_foldl {α β : Type} {f g : β → α → β} (h : ∀ a b, g (f b a) a = b) (l : List α) (b : β) :
    l.reverse.foldl g (l.foldl f b) = b := by
  induction l generalizing b with
  | nil => rfl
  | cons a l ih => rw [List.foldl_cons, List.reverse_cons, List.foldl_append, ih, List.foldl_cons, List.foldl_nil, h]

theorem decRounds_encRounds (q : Quad) : decRounds lk mk (encRounds lk mk q) = q :=
  foldl_reverse_foldl (decRound_encRound lk mk) (List.finRange 16) q

theorem encRounds_decRounds (q : Quad) : encRounds lk mk (decRounds lk mk q) = q := by
  have hback := foldl_reverse_foldl (f := fun q r => decRound lk mk r q) (g := fun q r => encRound lk mk r q)
    (encRound_decRound lk mk) (List.finRange 16).reverse q
  rwa [List.reverse_reverse] at hback

/-- The halves of four words exchanged. -/
def swapHalves (q : Quad) : Quad := ⟨q.r2, q.r3, q.r0, q.r1⟩

@[simp] theorem swapHalves_swapHalves (q : Quad) : swapHalves (swapHalves q) = q := rfl

/-- Whitening: the exclusive or of four words and four key words. -/
def whiten (k q : Quad) : Quad := ⟨q.r0 ^^^ k.r0, q.r1 ^^^ k.r1, q.r2 ^^^ k.r2, q.r3 ^^^ k.r3⟩

@[simp] theorem whiten_whiten (k q : Quad) : whiten k (whiten k q) = q := by
  simp [whiten]

/-- Rule R131: the key words of the input whitening. -/
def inputKeys : Quad := ⟨lk[0], lk[1], lk[2], lk[3]⟩

/-- Rule R131: the key words of the output whitening. -/
def outputKeys : Quad := ⟨lk[4], lk[5], lk[6], lk[7]⟩

/-- Rule R131: `ENC` as a chain of steps. -/
theorem encBlock_eq (b : Block) :
    encBlock lk mk b =
      quadBytes (whiten (outputKeys lk) (swapHalves (encRounds lk mk (whiten (inputKeys lk) (blockWords b))))) := rfl

/-- Rule R137: `DEC` as a chain of steps. -/
theorem decBlock_eq (b : Block) :
    decBlock lk mk b =
      quadBytes (whiten (inputKeys lk) (decRounds lk mk (swapHalves (whiten (outputKeys lk) (blockWords b))))) := rfl

/-- Rule R139: decryption undoes each step of encryption, the last one first. -/
theorem decBlock_encBlock (b : Block) : decBlock lk mk (encBlock lk mk b) = b := by
  rw [decBlock_eq, encBlock_eq, blockWords_quadBytes, whiten_whiten, swapHalves_swapHalves, decRounds_encRounds,
    whiten_whiten, quadBytes_blockWords]

/-- Rule R139: encryption undoes each step of decryption, the last one first. -/
theorem encBlock_decBlock (b : Block) : encBlock lk mk (decBlock lk mk b) = b := by
  rw [encBlock_eq, decBlock_eq, blockWords_quadBytes, whiten_whiten, encRounds_decRounds, swapHalves_swapHalves,
    whiten_whiten, quadBytes_blockWords]

/-- Rule R134: the number of the first of the two rounds of a cycle. -/
def firstRound (c : Fin 8) : Fin 16 := ⟨2 * c.val, by omega⟩

/-- Rule R134: the number of the second of the two rounds of a cycle. -/
def secondRound (c : Fin 8) : Fin 16 := ⟨2 * c.val + 1, by omega⟩

/-- Rule R134: the 16 rounds are the rounds of the 8 cycles. -/
theorem finRange_eq_flatMap_rounds :
    List.finRange 16 = (List.finRange 8).flatMap fun c => [firstRound c, secondRound c] := by decide

/-- Rule R134: an encryption cycle is its two rounds; the two swaps cancel. -/
theorem encCycle_eq_rounds (c : Fin 8) (q : Quad) :
    encCycle lk mk c q = encRound lk mk (secondRound c) (encRound lk mk (firstRound c) q) := by
  have h8 : 2 * (2 * c.val) + 8 = 4 * c.val + 8 := by omega
  have h9 : 2 * (2 * c.val) + 9 = 4 * c.val + 9 := by omega
  have h10 : 2 * (2 * c.val + 1) + 8 = 4 * c.val + 10 := by omega
  have h11 : 2 * (2 * c.val + 1) + 9 = 4 * c.val + 11 := by omega
  simp only [encCycle, encRound, roundF, firstRound, secondRound, h8, h9, h10, h11]

/-- Rule R138: a decryption cycle, on exchanged halves, is its two rounds. -/
theorem decCycle_swapHalves (c : Fin 8) (q : Quad) :
    decCycle lk mk c (swapHalves q) = swapHalves (decRound lk mk (firstRound c) (decRound lk mk (secondRound c) q)) := by
  have h8 : 2 * (2 * c.val) + 8 = 4 * c.val + 8 := by omega
  have h9 : 2 * (2 * c.val) + 9 = 4 * c.val + 9 := by omega
  have h10 : 2 * (2 * c.val + 1) + 8 = 4 * c.val + 10 := by omega
  have h11 : 2 * (2 * c.val + 1) + 9 = 4 * c.val + 11 := by omega
  simp only [decCycle, decRound, roundF, swapHalves, firstRound, secondRound, h8, h9, h10, h11]

theorem foldl_encCycle (q : Quad) :
    (List.finRange 8).foldl (fun q c => encCycle lk mk c q) q = encRounds lk mk q := by
  simp only [encRounds, finRange_eq_flatMap_rounds, List.foldl_flatMap, encCycle_eq_rounds, List.foldl_cons,
    List.foldl_nil]

theorem foldl_decCycle (q : Quad) :
    (List.finRange 8).reverse.foldl (fun q c => decCycle lk mk c q) (swapHalves q) = swapHalves (decRounds lk mk q) := by
  have hcycles (cs : List (Fin 8)) (q : Quad) :
      cs.reverse.foldl (fun q c => decCycle lk mk c q) (swapHalves q) =
        swapHalves ((cs.flatMap fun c => [firstRound c, secondRound c]).reverse.foldl (fun q r => decRound lk mk r q) q) := by
    induction cs generalizing q with
    | nil => rfl
    | cons c cs ih => simp [List.foldl_append, ih, decCycle_swapHalves]
  rw [hcycles, ← finRange_eq_flatMap_rounds, decRounds]

/-- Rule R134: encryption in 8 cycles is `ENC`. -/
theorem encBlockCycles_eq_encBlock (b : Block) : encBlockCycles lk mk b = encBlock lk mk b := by
  simp only [encBlockCycles, encBlock, foldl_encCycle]

/-- Rule R138: decryption in 8 cycles is `DEC`: it starts on the words that `DEC` exchanges first. -/
theorem decBlockCycles_eq_decBlock (b : Block) : decBlockCycles lk mk b = decBlock lk mk b :=
  calc decBlockCycles lk mk b
      = quadBytes (whiten (inputKeys lk) (swapHalves ((List.finRange 8).reverse.foldl (fun q c => decCycle lk mk c q)
          (swapHalves (swapHalves (whiten (outputKeys lk) (blockWords b))))))) := rfl
    _ = decBlock lk mk b := by rw [foldl_decCycle, swapHalves_swapHalves, decBlock_eq]

end Sys2Proof
end

section
/-! The statements of the block transform. -/

namespace Sys2Proof.Proofs

/-- Settles O42: whitening, exchange and rounds each undo their own step. -/
theorem encAndDecAreInverse : Obligations.EncAndDecAreInverse := by
  unfold Obligations.EncAndDecAreInverse
  exact fun lk mk b => ⟨decBlock_encBlock lk mk b, encBlock_decBlock lk mk b⟩

/-- Settles O43: a round changes one half by a function of the other, which it keeps; and a cycle is two rounds. -/
theorem decryptionRoundUndoesEncryptionRound : Obligations.DecryptionRoundUndoesEncryptionRound := by
  unfold Obligations.DecryptionRoundUndoesEncryptionRound
  exact fun lk mk => ⟨decRound_encRound lk mk, decBlockCycles_eq_decBlock lk mk⟩

/-- Settles O44: a cycle is two rounds. -/
theorem eightCyclesAreSixteenRounds : Obligations.EightCyclesAreSixteenRounds := by
  unfold Obligations.EightCyclesAreSixteenRounds
  exact encBlockCycles_eq_encBlock

/-- Settles O45: the model evaluated on the two keys. -/
theorem knownAnswersAreReproduced : Obligations.KnownAnswersAreReproduced := by
  unfold Obligations.KnownAnswersAreReproduced
  decide +kernel

end Sys2Proof.Proofs
end

section
/-! SUPPORT. Blocks under exclusive or, payloads cut at a block boundary, and what the buffer commands answer when their
checks pass, as functions on payloads. -/

namespace Sys2Proof

theorem xorBlock_assoc (a b c : Block) : xorBlock (xorBlock a b) c = xorBlock a (xorBlock b c) := by
  apply Vector.ext
  intro i hi
  simp [BitVec.xor_assoc]

@[simp] theorem xorBlock_zero (b : Block) : xorBlock b (Vector.replicate 16 0) = b := by
  apply Vector.ext
  intro i hi
  simp

@[simp] theorem xorBlock_self (b : Block) : xorBlock b b = Vector.replicate 16 0 := by
  apply Vector.ext
  intro i hi
  simp

theorem xorBlock_comm (a b : Block) : xorBlock a b = xorBlock b a := by
  apply Vector.ext
  intro i hi
  simp [BitVec.xor_comm]

/-- Only the zero block leaves a block as it is. -/
theorem xorBlock_eq_left_iff {b d : Block} : xorBlock b d = b ↔ d = Vector.replicate 16 0 := by
  constructor
  · intro h
    calc d = xorBlock (xorBlock b d) b := by rw [xorBlock_comm b d, xorBlock_cancel]
      _ = Vector.replicate 16 0 := by rw [h, xorBlock_self]
  · rintro rfl
    exact xorBlock_zero b

theorem xorBlock_left_injective (c : Block) : Function.Injective fun b => xorBlock b c :=
  Function.LeftInverse.injective (g := fun b => xorBlock b c) fun b => xorBlock_cancel b c

end Sys2Proof

namespace Sys2Proof.Machine

open Sys2Proof.Safety

/-- Rule R139 for the scheduled cipher. -/
@[simp] theorem State.dec_enc (s : State) (b : Block) : s.dec (s.enc b) = b := decBlock_encBlock s.lKey s.mkTab b

@[simp] theorem State.enc_dec (s : State) (b : Block) : s.enc (s.dec b) = b := encBlock_decBlock s.lKey s.mkTab b

theorem State.dec_injective (s : State) : Function.Injective s.dec :=
  Function.LeftInverse.injective (g := s.enc) s.enc_dec

/-- Rule R50: the blocks of two payloads of whole blocks, one after the other. -/
theorem payloadBlocks_append {x : List Byte} (y : List Byte) (hx : x.length % 16 = 0) :
    payloadBlocks (x ++ y) = payloadBlocks x ++ payloadBlocks y := by
  have hcount : (x ++ y).length / 16 = x.length / 16 + y.length / 16 := by
    rw [List.length_append]
    omega
  rw [payloadBlocks, Config.blockBytes, hcount]
  exact blocksOf_append _ _ y (by omega)

/-- Rule R50: the blocks of the bytes of some blocks. -/
@[simp] theorem payloadBlocks_joinBlocks (bs : List Block) : payloadBlocks (joinBlocks bs) = bs := by
  have hcount : (joinBlocks bs).length / 16 = bs.length := by
    rw [joinBlocks_length]
    omega
  rw [payloadBlocks, Config.blockBytes, hcount]
  simpa using blocksOf_joinBlocks bs []

/-- Rules R150 and R151: command `cmd` maps the blocks of its payload, in state `s`, by `f`. -/
def EcbAnswers (s : State) (cmd : List Byte → Instr) (f : Block → Block) : Prop :=
  ∀ z : List Byte, z.length % 16 = 0 →
    exec (cmd z) s =
      .next { s with rsp := s.rsp ++ headerBytes 0x00 z.length ++ joinBlocks ((payloadBlocks z).map f) }

theorem ecbAnswers_ecbe {s : State} (hkey : s.keyValid = true) : EcbAnswers s .ecbe s.enc := by
  intro z hz
  have hpass : Passes (.ecbe z) s := ⟨fun _ => hkey, nofun, hz⟩
  rw [exec_of_passes hpass, ok, State.respond_eq_headerBytes, okAnswer, joinBlocks_map_payloadBlocks_length s.enc hz]
  rfl

theorem ecbAnswers_ecbd {s : State} (hkey : s.keyValid = true) : EcbAnswers s .ecbd s.dec := by
  intro z hz
  have hpass : Passes (.ecbd z) s := ⟨fun _ => hkey, nofun, hz⟩
  rw [exec_of_passes hpass, ok, State.respond_eq_headerBytes, okAnswer, joinBlocks_map_payloadBlocks_length s.dec hz]
  rfl

/-- Rule R152: a command that maps blocks maps a concatenation to the concatenation of its answers, and one that maps them
back gives the payload back. -/
theorem EcbAnswers.append_and_back {s : State} {cmd cmd' : List Byte → Instr} {f g : Block → Block}
    (hcmd : EcbAnswers s cmd f) (hback : EcbAnswers s cmd' g) (hinv : ∀ b, g (f b) = b) {x y : List Byte}
    (hx : x.length % 16 = 0) (hy : y.length % 16 = 0) :
    ∃ ox oy, exec (cmd x) s = .next { s with rsp := s.rsp ++ headerBytes 0x00 x.length ++ ox } ∧
      exec (cmd y) s = .next { s with rsp := s.rsp ++ headerBytes 0x00 y.length ++ oy } ∧
      exec (cmd (x ++ y)) s = .next { s with rsp := s.rsp ++ headerBytes 0x00 (x ++ y).length ++ (ox ++ oy) } ∧
      exec (cmd' ox) s = .next { s with rsp := s.rsp ++ headerBytes 0x00 x.length ++ x } := by
  refine ⟨_, _, hcmd x hx, hcmd y hy, ?joined, ?back⟩
  case joined =>
    rw [hcmd (x ++ y) (by rw [List.length_append]; omega), payloadBlocks_append y hx, List.map_append, joinBlocks_append]
  case back =>
    have hlen := joinBlocks_map_payloadBlocks_length f hx
    have hid : g ∘ f = id := funext hinv
    rw [hback _ (by rw [hlen, hx]), hlen, payloadBlocks_joinBlocks, List.map_map, hid, List.map_id,
      joinBlocks_payloadBlocks hx]

/-- Rules R161 and R162: command `cmd` runs the loop `run` over the blocks of its payload from the chaining value and leaves
the loop's, in every state with the cipher of `s`. -/
def CbcAnswers (s : State) (cmd : List Byte → Instr) (run : Block → List Block → List Block × Block) : Prop :=
  ∀ (cv : Block) (rsp z : List Byte), z.length % 16 = 0 →
    exec (cmd z) { s with cv := cv, rsp := rsp } =
      .next { s with cv := (run cv (payloadBlocks z)).2,
                     rsp := rsp ++ headerBytes 0x00 z.length ++ joinBlocks (run cv (payloadBlocks z)).1 }

theorem cbcAnswers_cbce {s : State} (hkey : s.keyValid = true) (hiv : s.ivValid = true) :
    CbcAnswers s .cbce (cbcEncrypt s.enc) := by
  intro cv rsp z hz
  exact (cbc_answers (by simp) (execCbce_cases z { s with cv := cv, rsp := rsp })).1 hkey hiv hz

theorem cbcAnswers_cbcd {s : State} (hkey : s.keyValid = true) (hiv : s.ivValid = true) :
    CbcAnswers s .cbcd (cbcDecrypt s.dec) := by
  intro cv rsp z hz
  exact (cbc_answers (by simp) (execCbcd_cases z { s with cv := cv, rsp := rsp })).1 hkey hiv hz

/-- Rule R163: a loop that passes its chaining value on may be cut between two payloads. -/
theorem CbcAnswers.cut {s : State} {cmd : List Byte → Instr} {run : Block → List Block → List Block × Block}
    (h : CbcAnswers s cmd run)
    (happend : ∀ cv xs ys, run cv (xs ++ ys) = ((run cv xs).1 ++ (run (run cv xs).2 ys).1, (run (run cv xs).2 ys).2))
    {x y : List Byte} (hx : x.length % 16 = 0) (hy : y.length % 16 = 0) :
    ∃ ox oy t, exec (cmd x) s = .next t ∧ t.rsp = s.rsp ++ headerBytes 0x00 x.length ++ ox ∧
      ∃ cv, exec (cmd y) t = .next { t with cv := cv, rsp := t.rsp ++ headerBytes 0x00 y.length ++ oy } ∧
        exec (cmd (x ++ y)) s =
          .next { s with cv := cv, rsp := s.rsp ++ headerBytes 0x00 (x ++ y).length ++ (ox ++ oy) } := by
  refine ⟨_, _, _, h s.cv s.rsp x hx, rfl, _, h _ _ y hy, ?joined⟩
  have hjoined := h s.cv s.rsp (x ++ y) (by rw [List.length_append]; omega)
  rw [payloadBlocks_append y hx, happend, joinBlocks_append] at hjoined
  exact hjoined

/-- Rule R167: a loop that undoes another from the same chaining value gives the payload back under the same IV. -/
theorem CbcAnswers.roundTrip {s : State} {cmd cmd' : List Byte → Instr}
    {run run' : Block → List Block → List Block × Block} (h : CbcAnswers { s with ivValid := true } cmd run)
    (h' : CbcAnswers { s with ivValid := true } cmd' run') (hlen : ∀ cv ps, (run cv ps).1.length = ps.length)
    (hinv : ∀ cv ps, (run' cv (run cv ps).1).1 = ps) (hkey : s.keyValid = true) {iv x : List Byte}
    (hiv : iv.length = 16) (hx : x.length % 16 = 0) :
    ∃ a b c d y, exec (.cbci iv) s = .next a ∧ exec (cmd x) a = .next b ∧
      b.rsp = a.rsp ++ headerBytes 0x00 x.length ++ y ∧ exec (.cbci iv) b = .next c ∧ exec (cmd' y) c = .next d ∧
      d.rsp = c.rsp ++ headerBytes 0x00 x.length ++ x := by
  have hload (t : State) (ht : t.keyValid = true) := (cbci_answers iv t).1 ht hiv
  have hbytes : (joinBlocks (run (blockOf iv) (payloadBlocks x)).1).length = x.length :=
    joinBlocks_length_of_blocks (by rw [hlen, payloadBlocks_length]) hx
  refine ⟨_, _, _, _, _, hload s hkey, h _ _ x hx, rfl, hload _ hkey, h' _ _ _ (by rw [hbytes, hx]), ?_⟩
  simp only [payloadBlocks_joinBlocks, hinv, joinBlocks_payloadBlocks hx, hbytes]

/-- Rule R167: the decrypting loop undoes the encrypting one. -/
theorem cbcDecrypt_cbcEncrypt {enc dec : Block → Block} (hinv : ∀ b, dec (enc b) = b) (cv : Block) (ps : List Block) :
    (cbcDecrypt dec cv (cbcEncrypt enc cv ps).1).1 = ps := by
  induction ps generalizing cv with
  | nil => rfl
  | cons p ps ih => simp [cbcEncrypt, cbcDecrypt, hinv, ih]

/-- Rule R167: the encrypting loop undoes the decrypting one. -/
theorem cbcEncrypt_cbcDecrypt {enc dec : Block → Block} (hinv : ∀ b, enc (dec b) = b) (cv : Block) (ys : List Block) :
    (cbcEncrypt enc cv (cbcDecrypt dec cv ys).1).1 = ys := by
  induction ys generalizing cv with
  | nil => rfl
  | cons y ys ih => simp [cbcEncrypt, cbcDecrypt, hinv, ih]

/-- Rule R162: the value that block `i` of a ciphertext is chained on: the block before it, or the chaining value. -/
def chainedOn (cv : Block) (x : List Byte) (i : Nat) : Block := if i = 0 then cv else blockAt x (i - 1)

/-- Rule R162: the plaintext and the chaining value of CBCD, block by block. -/
theorem cbcd_blocks {s : State} (hkey : s.keyValid = true) (hiv : s.ivValid = true) {x : List Byte}
    (hx : x.length % 16 = 0) (hpos : 0 < x.length / 16) :
    ∃ ox, exec (.cbcd x) s =
        .next { s with cv := blockAt x (x.length / 16 - 1), rsp := s.rsp ++ headerBytes 0x00 x.length ++ ox } ∧
      ∀ i, i < x.length / 16 → blockAt ox i = xorBlock (s.dec (blockAt x i)) (chainedOn s.cv x i) := by
  obtain ⟨hok, -⟩ := Proofs.cbcdChainsOnTheCiphertextConsumed x s
  obtain ⟨-, ox, cv, hexec, -, hfirst, hlater, rfl⟩ := hok hkey hiv hx
  have hne : x.length ≠ 0 := by omega
  rw [if_neg hne] at hexec
  refine ⟨ox, hexec, fun i hi => ?_⟩
  cases i with
  | zero => exact hfirst hpos
  | succ i => exact hlater i hi

end Sys2Proof.Machine
end

section
/-! The statements of the modes. -/

namespace Sys2Proof.Proofs

open Sys2Proof.Machine Sys2Proof.Safety

/-- Settles O47: ECBE and ECBD map every block on its own, by functions that undo each other. -/
theorem ecbConcatenatesAndRoundTrips : Obligations.EcbConcatenatesAndRoundTrips := by
  unfold Obligations.EcbConcatenatesAndRoundTrips
  intro x y s hkey hx hy
  have henc := ecbAnswers_ecbe hkey
  have hdec := ecbAnswers_ecbd hkey
  exact ⟨henc.append_and_back hdec s.dec_enc hx hy, hdec.append_and_back henc s.enc_dec hx hy⟩

/-- Settles O48: each loop passes its chaining value from one run of blocks to the next. -/
theorem cbcStreamsMayBeCutAtBlockBoundaries : Obligations.CbcStreamsMayBeCutAtBlockBoundaries := by
  unfold Obligations.CbcStreamsMayBeCutAtBlockBoundaries
  intro x y s hkey hiv hx hy
  exact ⟨(cbcAnswers_cbce hkey hiv).cut (cbcEncrypt_append s.enc) hx hy,
    (cbcAnswers_cbcd hkey hiv).cut (cbcDecrypt_append s.dec) hx hy⟩

/-- Settles O49: from the same chaining value each loop undoes the other. -/
theorem cbcRoundTripsUnderOneIv : Obligations.CbcRoundTripsUnderOneIv := by
  unfold Obligations.CbcRoundTripsUnderOneIv
  intro iv x s hkey hiv hx
  have henc := cbcAnswers_cbce (s := { s with ivValid := true }) hkey rfl
  have hdec := cbcAnswers_cbcd (s := { s with ivValid := true }) hkey rfl
  exact ⟨henc.roundTrip hdec (cbcEncrypt_length _) (cbcDecrypt_cbcEncrypt s.dec_enc) hkey hiv hx,
    hdec.roundTrip henc (cbcDecrypt_length _) (cbcEncrypt_cbcDecrypt s.enc_dec) hkey hiv hx⟩

/-- Settles O50: a plaintext block depends on its ciphertext block, by a bijection, and on the one before it, by exclusive
or. -/
theorem cbcErrorReachesTwoBlocksOnly : Obligations.CbcErrorReachesTwoBlocksOnly := by
  unfold Obligations.CbcErrorReachesTwoBlocksOnly
  intro x y j d s hkey hiv hx hlen hj hd hat hother
  have hpos : 0 < x.length / 16 := by omega
  obtain ⟨ox, hox, hxblocks⟩ := cbcd_blocks hkey hiv hx hpos
  obtain ⟨oy, hoy, hyblocks⟩ := cbcd_blocks (x := y) hkey hiv (hlen ▸ hx) (hlen ▸ hpos)
  rw [hlen] at hoy hyblocks
  have hchain : ∀ i, i < x.length / 16 → i ≠ j + 1 → chainedOn s.cv y i = chainedOn s.cv x i := by
    intro i hi hne
    cases i with
    | zero => rfl
    | succ i => exact hother i (by omega) (by omega)
  refine ⟨ox, oy, _, _, hox, hoy, ?differs, fun hnext => ?next, fun i hi hne hne' => ?others, ?left⟩
  case differs =>
    rw [hyblocks j hj, hxblocks j hj, hchain j hj (by omega), hat]
    intro heq
    exact hd (xorBlock_eq_left_iff.mp (s.dec_injective (xorBlock_left_injective _ heq)))
  case next =>
    have hprev : chainedOn s.cv y (j + 1) = xorBlock (chainedOn s.cv x (j + 1)) d := hat
    rw [hyblocks _ hnext, hxblocks _ hnext, hother _ hnext (by omega), hprev, xorBlock_assoc]
  case others =>
    rw [hyblocks i hi, hxblocks i hi, hchain i hi hne', hother i hi hne]
  case left =>
    split
    case isTrue hlast =>
      rw [← hlast]
      exact hat
    case isFalse hinner => exact hother _ (by omega) (by omega)

/-- Settles O51: the one block is exclusive-ored with zeros before it is encrypted. -/
theorem cbcOfOneBlockUnderZeroIvIsEcb : Obligations.CbcOfOneBlockUnderZeroIvIsEcb := by
  unfold Obligations.CbcOfOneBlockUnderZeroIvIsEcb
  intro b s hkey hb
  have hzero : blockOf (List.replicate 16 0) = Vector.replicate 16 0 := by decide
  have hload := (cbci_answers (List.replicate 16 0) s).1 hkey List.length_replicate
  have hcbce := cbcAnswers_cbce (s := { s with ivValid := true }) hkey rfl (blockOf (List.replicate 16 0))
    (s.rsp ++ [0x00, 0x00, 0x00, 0x00]) b (by rw [hb])
  have hencb := (singleBlock_answers (execEncb_cases b s)).1 hkey hb
  rw [payloadBlocks_of_length_sixteen hb, hb, cbcEncrypt, hzero, xorBlock_zero] at hcbce
  rw [List.append_assoc] at hencb hcbce
  refine ⟨_, _, _, hload, hzero ▸ hcbce, ?_, hencb⟩
  simp [cbcEncrypt, headerBytes, State.enc]

end Sys2Proof.Proofs
end

section
/-! SUPPORT. The textual form (rules R68 and R69): a byte string written in hexadecimal is read back, and which words start a
line. -/

namespace Sys2Proof.Machine

theorem hexValue_hexChar : ∀ v : Nibble, hexValue (hexChar v) = some v := by decide

/-- A hexadecimal digit is none of the characters that stand for themselves in a payload's text. -/
theorem hexChar_not_mem : ∀ v : Nibble, hexChar v ∉ [' ', '"', '.', '*', ','] := by decide

/-- Rule R7: a byte is its two digits. -/
theorem append_nibbles (b : Byte) : b.extractLsb' 4 4 ++ b.extractLsb' 0 4 = b := by
  rw [BitVec.extractLsb'_append_extractLsb'_eq_extractLsb' (by rfl)]
  simp

theorem hexText_cons (b : Byte) (bs : List Byte) :
    hexText (b :: bs) = hexChar (b.extractLsb' 4 4) :: hexChar (b.extractLsb' 0 4) :: hexText bs := rfl

/-- Rule R68: two hexadecimal digits are one byte. -/
theorem lexPayload_hexChar_pair (hi lo : Nibble) (cs : List Char) :
    lexPayload .plain (hexChar hi :: hexChar lo :: cs) = (lexPayload .plain cs).map (.byte (hi ++ lo) :: ·) := by
  have hplain := hexChar_not_mem hi
  simp only [List.mem_cons, List.not_mem_nil, or_false, not_or] at hplain
  obtain ⟨hspace, hquote, hdot, hstar, -⟩ := hplain
  simp [lexPayload, hspace, hquote, hdot, hstar, hexValue_hexChar]

theorem lexPayload_hexText (bs : List Byte) : lexPayload .plain (hexText bs) = some (bs.map .byte) := by
  induction bs with
  | nil => rfl
  | cons b bs ih => rw [hexText_cons, lexPayload_hexChar_pair, ih, append_nibbles]; rfl

/-- Rule R68: bytes in hexadecimal stand for themselves. -/
theorem expandTokens_map_byte (bs : List Byte) : expandTokens (bs.map .byte) = some bs := by
  induction bs with
  | nil => rfl
  | cons b bs ih => cases bs <;> simp_all [expandTokens]

theorem assemblePayload_hexText (bs : List Byte) : assemblePayload (hexText bs) = some bs := by
  rw [assemblePayload, lexPayload_hexText, Option.bind_some, expandTokens_map_byte]

theorem assemblePayload_space_cons (cs : List Char) : assemblePayload (' ' :: cs) = assemblePayload cs := rfl

theorem hexField_cases (bs : List Byte) : hexField bs = [] ∨ ∃ cs, hexField bs = ' ' :: cs := by
  cases bs with
  | nil => exact .inl rfl
  | cons b bs => exact .inr ⟨_, rfl⟩

/-- Rule R68: a payload's field on a line is read back. -/
theorem assemblePayload_hexField (bs : List Byte) : assemblePayload (hexField bs) = some bs := by
  cases bs with
  | nil => rfl
  | cons b bs => exact assemblePayload_hexText (b :: bs)

/-- Rule R69: the text before the first comma, where it holds no quotes. -/
theorem splitComma_append {before : List Char} (h : ∀ c ∈ before, c ≠ ',' ∧ c ≠ '"') (after : List Char) :
    splitComma false (before ++ ',' :: after) = some (before, after) := by
  induction before with
  | nil => rfl
  | cons c cs ih =>
    obtain ⟨hcomma, hquote⟩ := h c (by simp)
    simp [splitComma, hcomma, hquote, ih fun d hd => h d (by simp [hd])]

theorem hexText_plain (bs : List Byte) : ∀ c ∈ hexText bs, c ≠ ',' ∧ c ≠ '"' := by
  intro c hc
  obtain ⟨b, -, hb⟩ := List.mem_flatMap.mp hc
  have hdigit : ∃ v, c = hexChar v := by simp at hb; tauto
  obtain ⟨v, rfl⟩ := hdigit
  have hplain := hexChar_not_mem v
  simp only [List.mem_cons, List.not_mem_nil, or_false, not_or] at hplain
  tauto

/-- Rule R62: a command's mnemonic is listed with its opcode. -/
theorem mnemonicOf_mem (i : Instr) : (mnemonicOf i, opcodeOf i) ∈ mnemonics := by
  cases i <;> simp [mnemonics, mnemonicOf, opcodeOf]

/-- Rule R62: no two of the listed mnemonics are the same. -/
theorem mnemonics_find : ∀ m ∈ mnemonics, (mnemonics.find? fun n => n.1.toList = m.1.toList) = some m := by decide

/-- Rules R62 and R69: a mnemonic has no space, starts no comment and is no pseudo-command. -/
theorem mnemonics_plain : ∀ m ∈ mnemonics, (∀ c ∈ m.1.toList, c ≠ ' ') ∧ m.1.toList ≠ [] ∧
    m.1.toList.head? ≠ some '#' ∧ m.1.toList ≠ "ECB_NEW".toList ∧ m.1.toList ≠ "CBC_NEW".toList := by simp [mnemonics]

/-- Rules R62 and R68: a line that starts with a mnemonic is that opcode's command of the payload that follows. -/
theorem assembleLine_of_mem {m : String × Byte} (hm : m ∈ mnemonics) {arg : List Char} {inp : List Byte}
    (harg : arg = [] ∨ ∃ cs, arg = ' ' :: cs) (hinp : assemblePayload arg = some inp) :
    assembleLine (m.1.toList ++ arg) = (commandOf m.2 inp).map fun i => [i] := by
  obtain ⟨hspace, hne, hcomment, hecb, hcbc⟩ := mnemonics_plain m hm
  have hword : (m.1.toList ++ arg).takeWhile (· ≠ ' ') = m.1.toList := by
    rw [List.takeWhile_append_of_pos (by simpa using hspace)]
    obtain rfl | ⟨cs, rfl⟩ := harg <;> simp
  have hrest : (m.1.toList ++ arg).dropWhile (· ≠ ' ') = arg := by
    rw [List.dropWhile_append_of_pos (by simpa using hspace)]
    obtain rfl | ⟨cs, rfl⟩ := harg <;> simp
  have hline : ¬ ((m.1.toList ++ arg).isEmpty ∨ (m.1.toList ++ arg).head? = some '#') := by
    simp [List.head?_append_of_ne_nil _ hne, hne, hcomment]
  rw [assembleLine, if_neg hline, hword, hrest, if_neg hecb, if_neg hcbc, mnemonics_find m hm, hinp]
  rfl

/-- Rule R69: ECB_NEW. -/
theorem assembleLine_ecbNew (arg : List Char) :
    assembleLine ("ECB_NEW".toList ++ ' ' :: arg) = (assemblePayload (' ' :: arg)).map fun key => [.sched key] := rfl

/-- Rule R69: CBC_NEW. -/
theorem assembleLine_cbcNew (arg : List Char) :
    assembleLine ("CBC_NEW".toList ++ ' ' :: arg) =
      (splitComma false (' ' :: arg)).bind fun p =>
        (assemblePayload p.1).bind fun key => (assemblePayload p.2).map fun iv => [.sched key, .cbci iv] := rfl

end Sys2Proof.Machine
end

section
/-! The statements of the textual form. -/

namespace Sys2Proof.Proofs

open Sys2Proof.Machine

/-- Settles O7: the mnemonic gives the opcode and the digits give the payload. -/
theorem commandTextAssemblesBack : Obligations.CommandTextAssemblesBack := by
  unfold Obligations.CommandTextAssemblesBack
  intro i
  rw [commandText, assembleLine_of_mem (mnemonicOf_mem i) (hexField_cases i.payload) (assemblePayload_hexField i.payload),
    commandOf_opcodeOf, Option.map_some]

/-- Settles O8: no digit is a comma or a quote, so the comma parts the two payloads. -/
theorem pseudoCommandsExpand : Obligations.PseudoCommandsExpand := by
  unfold Obligations.PseudoCommandsExpand
  intro key iv
  constructor
  · exact (assembleLine_ecbNew (hexText key)).trans (by rw [assemblePayload_space_cons, assemblePayload_hexText]; rfl)
  · have hsplit : splitComma false (' ' :: hexText key ++ ',' :: ' ' :: hexText iv) =
        some (' ' :: hexText key, ' ' :: hexText iv) :=
      splitComma_append (by simpa using hexText_plain key) _
    have hline : "CBC_NEW ".toList ++ hexText key ++ ", ".toList ++ hexText iv =
        "CBC_NEW".toList ++ ' ' :: (hexText key ++ ',' :: ' ' :: hexText iv) := by simp
    rw [hline, assembleLine_cbcNew, ← List.cons_append, hsplit, Option.bind_some, assemblePayload_space_cons,
      assemblePayload_space_cons, assemblePayload_hexText, assemblePayload_hexText]
    rfl

end Sys2Proof.Proofs
end
